-- ==== Sys2Proof/Word.lean ====
section
/-! DEFINITION. The widths of the engine's values: bytes on the wire, 16-bit chip ids, 32-bit registers (R8, R11). -/

namespace Sys2Proof

/-- A byte of the wire or of an image (u8, R11). -/
abbrev Byte := BitVec 8

/-- A 16-bit value: the chip id and the erase marker (u16, R65). -/
abbrev Half := BitVec 16

/-- A host register or a target address (u32, R8, R63). -/
abbrev Word := BitVec 32

end Sys2Proof
end

