-- ==== Sys2Proof/Syntax.lean ====
section
/-! DEFINITION. The instructions: one constructor per row of spec/opcode_table.json. A host op carries the 28 bits the
engine ignores (R92), so that no bit of the word is lost in decoding. -/

namespace Sys2Proof

/-- The 14 rows of the opcode table. -/
inductive Instr where
  /-- Wire command 0x01, frame `01 FE` (R82, R191). -/
  | getVersion
  /-- Wire command 0x02, frame `02 FD` (R82, R192). -/
  | getId
  /-- Wire command 0x44, frame `44 BB` (R82, R193). -/
  | globalErase
  /-- Wire command 0x31, frame `31 CE` (R82, R194). -/
  | writeMemory
  /-- Control byte 0x5A (R80, R159). -/
  | sync
  /-- Control byte 0x79 (R80, R150). -/
  | ack
  /-- Control byte 0x1F (R80, R150). -/
  | nack
  /-- Host op 0x1 (R93, R222). -/
  | opConnect (ign : BitVec 28)
  /-- Host op 0x2 (R93, R223). -/
  | opGetVersion (ign : BitVec 28)
  /-- Host op 0x3 (R93, R224). -/
  | opGetId (ign : BitVec 28)
  /-- Host op 0x4 (R93, R225). -/
  | opGlobalErase (ign : BitVec 28)
  /-- Host op 0x5 (R93, R226). -/
  | opProgramImage (ign : BitVec 28)
  /-- Host op 0x6 (R93, R227). -/
  | opFlashRun (ign : BitVec 28)
  /-- A reserved host op: code 0x0 or 0x7 to 0xF (R94, R228). -/
  | opReserved (op : BitVec 4) (ign : BitVec 28)
  deriving DecidableEq, Repr

end Sys2Proof
end

