-- ==== Sys2Proof/WellFormed.lean ====
section
/-! DEFINITION. The one check on an instruction as syntax: a reserved host op holds a reserved code (R94). Every other
constructor is fixed by its row, or holds bits the engine ignores. -/

namespace Sys2Proof

/-- The reserved host op codes: 0x0 and 0x7 to 0xF (R94). -/
def reservedOp (op : BitVec 4) : Bool :=
  op == 0x0#4 || BitVec.ule 0x7#4 op

/-- A well-formed instruction: a reserved host op's code is a reserved one. -/
def Instr.wf : Instr → Bool
  | .opReserved op _ => reservedOp op
  | .getVersion | .getId | .globalErase | .writeMemory => true
  | .sync | .ack | .nack => true
  | .opConnect _ | .opGetVersion _ | .opGetId _ => true
  | .opGlobalErase _ | .opProgramImage _ | .opFlashRun _ => true

end Sys2Proof
end

