-- ==== Sys2Proof/Decode.lean ====
section
/-! DEFINITION. Decoding and encoding. There are two encoding levels (30_encoding.md): the wire, a stream of bytes on
which SYNC, ACK, NACK and the command frames stand (R80 to R82), and the host op word written to CTRL (R92 to R94). -/

namespace Sys2Proof

/-! ### The constants of R7 that an encoding uses -/

/-- SYNC (R7, R80). -/
def syncByte : Byte := 0x5A#8

/-- ACK (R7, R80). -/
def ackByte : Byte := 0x79#8

/-- NACK (R7, R80). -/
def nackByte : Byte := 0x1F#8

/-- OP_GET_VERSION (R7). -/
def opcodeGetVersion : Byte := 0x01#8

/-- OP_GET_ID (R7). -/
def opcodeGetId : Byte := 0x02#8

/-- OP_GLOBAL_ERASE (R7). -/
def opcodeGlobalErase : Byte := 0x44#8

/-- OP_WRITE_MEMORY (R7). -/
def opcodeWriteMemory : Byte := 0x31#8

/-- `not8(a) = a xor 0xFF` (R11). -/
def not8 (a : Byte) : Byte := a ^^^ 0xFF#8

/-- `command_bytes(op) = [op, not8(op)]` (R81, R133). -/
def commandBytes (op : Byte) : List Byte := [op, not8 op]

/-- A field of a 32-bit register: its value with its lowest bit at bit `lo` (R11). -/
def fieldAt {w : Nat} (v : BitVec w) (lo : Nat) : Word := v.setWidth 32 <<< lo

/-! ### Decoding -/

/-- Why bytes are no wire instruction. -/
inductive DecodeReject where
  /-- There is no byte to decode. -/
  | empty
  /-- The first byte is neither a control byte (R80) nor one of the four opcodes (R82). -/
  | notAnOpcode
  /-- An opcode stands alone: a command frame is two bytes (R81). -/
  | truncatedFrame
  /-- The second byte of a command frame is not the opcode's complement (R81, R91). -/
  | badComplement
  deriving DecidableEq, Repr

/-- What decoding a stream of wire bytes gives: an instruction and the bytes after it, or a rejection by name. -/
inductive Decoded where
  | instr (i : Instr) (rest : List Byte)
  | reject (r : DecodeReject)
  deriving DecidableEq, Repr

/-- The wire command an opcode names (R82). -/
def commandOfOpcode (op : Byte) : Option Instr :=
  if op = opcodeGetVersion then some .getVersion
  else if op = opcodeGetId then some .getId
  else if op = opcodeGlobalErase then some .globalErase
  else if op = opcodeWriteMemory then some .writeMemory
  else none

/-- The control byte a byte is (R80). -/
def controlOfByte (b : Byte) : Option Instr :=
  if b = syncByte then some .sync
  else if b = ackByte then some .ack
  else if b = nackByte then some .nack
  else none

/-- Decode the first wire instruction of a stream of bytes, in sending order: a control byte is one byte (R80), a command
frame two, the second the first's complement (R81, R82, R91). -/
def decodeWire : List Byte → Decoded
  | [] => .reject .empty
  | b :: rest =>
    match controlOfByte b with
    | some i => .instr i rest
    | none =>
      match commandOfOpcode b with
      | none => .reject .notAnOpcode
      | some i =>
        match rest with
        | [] => .reject .truncatedFrame
        | c :: rest' => if c = not8 b then .instr i rest' else .reject .badComplement

/-- Decode the word of a CTRL write: OP in bits 3:0, bits 31:4 ignored (R21, R92 to R94). Every word is an instruction. -/
def decodeCtrl (v : Word) : Instr :=
  let op := v.extractLsb' 0 4
  let ign := v.extractLsb' 4 28
  if op = 0x1#4 then .opConnect ign
  else if op = 0x2#4 then .opGetVersion ign
  else if op = 0x3#4 then .opGetId ign
  else if op = 0x4#4 then .opGlobalErase ign
  else if op = 0x5#4 then .opProgramImage ign
  else if op = 0x6#4 then .opFlashRun ign
  else .opReserved op ign

/-- The control byte the engine takes from the link: only ACK and NACK go from device to engine (R80), and any other byte
is data or is discarded by its position (R90). -/
def decodeRx (b : Byte) : Option Instr :=
  if b = ackByte then some .ack
  else if b = nackByte then some .nack
  else none

/-! ### Encoding -/

/-- The words of an instruction at its encoding level: bytes on the wire in sending order, or a CTRL word. -/
inductive Encoded where
  | wire (bytes : List Byte)
  | ctrl (word : Word)
  deriving DecidableEq, Repr

/-- The CTRL word of a host op code and the ignored bits above it (R92). -/
def ctrlWord (op : BitVec 4) (ign : BitVec 28) : Word := fieldAt op 0 ||| fieldAt ign 4

/-- The encoding of an instruction, from R80, R82 and R93. -/
def encode : Instr → Encoded
  | .getVersion => .wire (commandBytes opcodeGetVersion)
  | .getId => .wire (commandBytes opcodeGetId)
  | .globalErase => .wire (commandBytes opcodeGlobalErase)
  | .writeMemory => .wire (commandBytes opcodeWriteMemory)
  | .sync => .wire [syncByte]
  | .ack => .wire [ackByte]
  | .nack => .wire [nackByte]
  | .opConnect ign => .ctrl (ctrlWord 0x1#4 ign)
  | .opGetVersion ign => .ctrl (ctrlWord 0x2#4 ign)
  | .opGetId ign => .ctrl (ctrlWord 0x3#4 ign)
  | .opGlobalErase ign => .ctrl (ctrlWord 0x4#4 ign)
  | .opProgramImage ign => .ctrl (ctrlWord 0x5#4 ign)
  | .opFlashRun ign => .ctrl (ctrlWord 0x6#4 ign)
  | .opReserved op ign => .ctrl (ctrlWord op ign)

/-- Decode at either level; wire bytes must hold exactly one instruction. -/
def decode : Encoded → Option Instr
  | .ctrl v => some (decodeCtrl v)
  | .wire bs =>
    match decodeWire bs with
    | .instr i [] => some i
    | .instr _ (_ :: _) => none
    | .reject _ => none

/-! ### The numbering of spec/opcode_table.json -/

/-- A command frame's 16-bit pattern in sending order: the first byte sent is bits 15:8 (R81). -/
def frameOfNat (w : Nat) : List Byte := [BitVec.ofNat 8 (w / 256), BitVec.ofNat 8 w]

/-- The instruction the decoder reads from a table row's word: 16 bits are a command frame (R81); up to 8 bits are a control
byte if they are one (R80) and else the low bits of a CTRL word; 24 or 32 bits are a CTRL word (R92). DESIGN CHOICE, log
entry 17: the table numbers both encoding levels from bit 0, and only the width tells them apart. -/
def decodeTableWord (nbits w : Nat) : Option Instr :=
  if nbits ≤ 8 then
    match controlOfByte (BitVec.ofNat 8 w) with
    | some i => some i
    | none => some (decodeCtrl (BitVec.ofNat 32 w))
  else if nbits ≤ 16 then decode (.wire (frameOfNat w))
  else if nbits ≤ 32 then some (decodeCtrl (BitVec.ofNat 32 w))
  else none

end Sys2Proof
end

