-- ==== Sys2Proof/Config.lean ====
section
/-! DEFINITION. What an implementation fixes and what the spec leaves free: the open parameters of R6 and the link's
answers of R117. Neither has a body: no proof can see a value of it. The types the two are made of stand here too. -/

namespace Sys2Proof

/-- ACK_POLL_LIMIT (R6, D36): `UNBOUNDED`, or a number of polls from 1 to 0xFFFFFFFF. `polls m` is the number m + 1, so
that no number outside the range can be written down. -/
inductive PollLimit where
  | unbounded
  | polls (m : Fin 0xFFFFFFFF)
  deriving DecidableEq, Repr, Inhabited

/-- The open parameters the engine's rules read (R6). POLL_INTERVAL and SETTLE_DELAY are durations and no rule reads them
(R15); HOST_BUS_MAP and PROGRESS_SINK belong to the platform (R73, R232). -/
structure Params where
  /-- DUMMY_TX: the byte sent on a transfer that exists only to receive one (R113). -/
  dummyTx : Byte
  /-- ACK_POLL_LIMIT: how many polls one ack wait may make (R154). -/
  ackPollLimit : PollLimit
  /-- IMG_MAX_LEN: the capacity of each image buffer in bytes (R61). -/
  imgMaxLen : Nat
  deriving DecidableEq, Repr, Inhabited

/-- The link's answer to one transfer: a byte, or the transport error `xerr` (R110). -/
inductive LinkAnswer where
  | byte (b : Byte)
  | xerr
  deriving DecidableEq, Repr, Inhabited

/-- A transfer request on the port: the byte sent and the end-of-call mark (R110, R111). -/
structure Request where
  tx : Byte
  last : Bool
  deriving DecidableEq, Repr

/-- One entry of the wire trace (R10): a request and the link's response. The response is `none` while the transfer is
outstanding, and for ever if a reset abandoned it (R281). -/
structure Transfer where
  req : Request
  resp : Option LinkAnswer
  deriving DecidableEq, Repr

/-- OPEN: the built engine's parameters (R6, log entry 4). -/
opaque Config.params : Params

/-- FREE VALUE: the link's answer to the transfer that ends the given wire trace. It may be any answer and may depend on
the whole history (R117, log entry 3). It is asked only where the agenda names no answer. -/
opaque Config.linkAnswer : List Transfer → LinkAnswer

end Sys2Proof
end

