-- ==== Sys2Proof/Machine/State.lean ====
section
/-! DEFINITION. The engine's state as plain data (10_state.md), what is observed of it (R10), the order in which the agents
move next, and the state after reset (R51). -/

namespace Sys2Proof.Machine

/-! ### The fields of STATUS -/

/-- STATUS.STATE, the top-level state (R27). -/
inductive EngineState where
  | idle
  | busy
  | done
  | error
  deriving DecidableEq, Repr

/-- STATUS.HS, the handshake state (R30). -/
inductive Handshake where
  | idle
  | syncSent
  | acked
  | nacked
  deriving DecidableEq, Repr

/-- STATUS.ERR, the error code (R32, R250). Codes 8 to 15 are never produced, so they are no constructor. -/
inductive ErrCode where
  | none
  | linkTimeout
  | protocolNack
  | handshakeFailed
  | unexpectedResponse
  | transportError
  | cancelled
  | badRequest
  deriving DecidableEq, Repr

/-- STATUS.STEP, the client step (R34). -/
inductive ClientStep where
  | none
  | connect
  | settle
  | getVersion
  | getId
  | globalErase
  | programImage
  | close
  deriving DecidableEq, Repr

/-- STATUS.PHASE, the phase of an exchange (R36). -/
inductive Phase where
  | none
  | handshake
  | sync
  | cmd
  | block0
  | block1
  | resp
  deriving DecidableEq, Repr

/-- An image buffer: IMG_0 holds the bootstub, IMG_1 the application (R61). -/
inductive ImageSel where
  | bootstub
  | application
  deriving DecidableEq, Repr

/-- The AckState of an ack wait that has resolved (R48). -/
inductive AckState where
  | ack
  | nack
  deriving DecidableEq, Repr

/-- STATUS (R26). -/
structure Status where
  state : EngineState
  connected : Bool
  ovr : Bool
  hs : Handshake
  cancelPend : Bool
  err : ErrCode
  curOp : BitVec 4
  step : ClientStep
  curImg : ImageSel
  phase : Phase
  deriving DecidableEq, Repr

/-! ### Result and diagnostic registers -/

/-- VERSION (R37). -/
structure VersionReg where
  ver : Byte
  valid : Bool
  deriving DecidableEq, Repr

/-- CHIP_ID (R38). -/
structure ChipIdReg where
  id : Half
  valid : Bool
  deriving DecidableEq, Repr

/-- ERR_INFO (R40). -/
structure ErrInfoReg where
  byte : Byte
  byteValid : Bool
  phase : Phase
  step : ClientStep
  img : ImageSel
  deriving DecidableEq, Repr

/-- LASTRX: the byte of the most recent poll of the current ack wait and its valid bit (R45). -/
structure LastRx where
  byte : Byte
  valid : Bool
  deriving DecidableEq, Repr

/-! ### The sequencer (R46) -/

/-- The four wire commands (R82). -/
inductive WireCmd where
  | getVersion
  | getId
  | globalErase
  | writeMemory
  deriving DecidableEq, Repr

/-- What an ack wait acknowledges: one constructor per phase in which a transfer is made (R36, R178). -/
inductive Element where
  | handshake
  | sync
  | cmd
  | block0
  | block1
  | resp
  deriving DecidableEq, Repr

/-- A client operation the sequencer can be about to begin: each is one wire instruction (R190 to R194). -/
inductive ClientCall where
  | connect
  | getVersion
  | getId
  | globalErase
  | writePage
  deriving DecidableEq, Repr

/-- The point of the pseudocode at which the engine takes its next step (R46). -/
inductive Pos where
  /-- No op has run since reset (R51). -/
  | idle
  /-- The last op completed (R231). -/
  | done
  /-- An error was raised (R258). -/
  | error
  /-- The first statement of a client operation. -/
  | call (c : ClientCall)
  /-- The first statement of `program_image(s, base)` (R195). -/
  | image (s : ImageSel) (base : Word)
  /-- Inside a Write of element `e`: `b` is the next byte, `rest` the bytes after it (R112). -/
  | write (e : Element) (b : Byte) (rest : List Byte)
  /-- Inside the Read of a response: `more` transfers follow the next one, `got` has been received (R113, R175). -/
  | read (more : Nat) (got : List Byte)
  /-- The start of a poll iteration of the ack wait after `e`, or its poll when a transfer is outstanding (R150). -/
  | poll (e : Element)
  /-- `wait(POLL_INTERVAL)` after an unresolved poll (R158). -/
  | pollWait (e : Element)
  /-- The echo of a resolved ack wait (R152). -/
  | echo (e : Element)
  /-- `wait(SETTLE_DELAY)` in FLASH_RUN (R235). -/
  | settle
  deriving DecidableEq, Repr

/-- The parts of the position that no register holds: the point itself, the wire command in progress, the payload blocks
not sent yet, and the base address of the image in progress. The host op, step, image and page index are STATUS.CUR_OP,
STEP, CUR_IMG and PAGE (log entry 13). -/
structure Seq where
  pos : Pos
  cmd : WireCmd
  blocks : List (List Byte)
  imgBase : Word
  deriving DecidableEq, Repr

/-! ### Image buffers, observation and the outside world -/

/-- An image buffer: the loaded bytes by index, indices strictly rising. An index not listed is a byte that was not loaded
since reset and has no value (R61). -/
abbrev Memory := List Host.Cell

/-- The events of R232. -/
inductive Event where
  | version (v : Byte)
  | chipId (id : Half)
  | erased
  | pageWritten (s : ImageSel) (i : Word) (addr : Word)
  | linkClose
  deriving DecidableEq, Repr

/-- A host register read: the index and the value it returned (R20). -/
structure RegReadEntry where
  index : BitVec 4
  value : Word
  deriving DecidableEq, Repr

/-- One move in the total order of the agents (R9, R74): the engine goes on, the link answers the outstanding transfer, the
host accesses a register or loads an image byte, or reset is asserted. -/
inductive Turn where
  | engine
  | link (a : LinkAnswer)
  | regWrite (n : BitVec 4) (v : Word)
  | regRead (n : BitVec 4)
  | imgLoad (s : ImageSel) (k : Nat) (b : Byte)
  | reset
  deriving DecidableEq, Repr

/-- The state of the machine. -/
structure State where
  /-- BASE (R23). -/
  base : Word
  /-- IMGSEL.SEL (R24). -/
  imgsel : ImageSel
  /-- LEN0 (R25). -/
  len0 : Word
  /-- LEN1 (R25). -/
  len1 : Word
  /-- STATUS (R26). -/
  status : Status
  /-- VERSION (R37). -/
  version : VersionReg
  /-- CHIP_ID (R38). -/
  chipId : ChipIdReg
  /-- PAGE (R39), also the page index of the page loop (R195). -/
  page : Word
  /-- ERR_INFO (R40). -/
  errInfo : ErrInfoReg
  /-- ERR_PAGE (R41). -/
  errPage : Word
  /-- ADDR (R45). -/
  addr : Word
  /-- RBUF (R45). -/
  rbuf : List Byte
  /-- LASTRX (R45). -/
  lastRx : LastRx
  /-- PCNT (R45); POLLS is the view of it (R42). -/
  pcnt : Nat
  /-- ACKRES (R45); `none` is "no value" (R51). -/
  ackres : Option AckState
  /-- The sequencer position (R46). -/
  seq : Seq
  /-- IMG_0 (R61). -/
  img0 : Memory
  /-- IMG_1 (R61). -/
  img1 : Memory
  /-- The outstanding transfer, if any (R110, R115). -/
  inFlight : Option Request
  /-- The completed and abandoned entries of the wire trace, in issue order (R10, R281). -/
  trace : List Transfer
  /-- The event list, oldest first (R10, R232). -/
  events : List Event
  /-- How many `close` indications the port has carried (R119). -/
  closes : Nat
  /-- What host register reads have returned, oldest first (R20). -/
  reads : List RegReadEntry
  /-- The model's own: who moves next, and with what (log entry 2). -/
  agenda : List Turn
  /-- The model's own: the open parameters of R6 (log entry 4). -/
  params : Params
  deriving DecidableEq, Repr

/-- Why the machine stops. -/
inductive Fault where
  /-- Raised by WRITE_MEMORY (the building of a page) when a byte below LEN was not loaded since reset: the spec's model
  fault UNLOADED_IMAGE_BYTE (R61, R195). Safe: the hardware would go on with stale bytes. -/
  | unloadedImageByte
  deriving DecidableEq, Repr

/-- Why an instruction has no meaning. -/
inductive Refusal where
  /-- Raised by exec's arm of an instruction that has no meaning yet. Safe. No arm uses it. -/
  | notModelled (mnemonic : String)
  /-- Raised by WRITE_MEMORY if `write_payload_block` were called with 0 or more than 256 bytes (R137, U4). Safe. The engine
  calls it with 256 bytes only (R139), so no path reaches it. -/
  | payloadLength
  deriving DecidableEq, Repr

/-! ### The wire trace and reset -/

/-- The wire trace (R10): the outstanding request is its last entry, without a response (R281). -/
def State.wireTrace (s : State) : List Transfer :=
  match s.inFlight with
  | none => s.trace
  | some r => s.trace ++ [⟨r, none⟩]

/-- STATUS after reset (R51). -/
def Status.reset : Status where
  state := .idle
  connected := false
  ovr := false
  hs := .idle
  cancelPend := false
  err := .none
  curOp := 0#4
  step := .none
  curImg := .bootstub
  phase := .none

/-- The sequencer after reset: the IDLE position (R51). The other parts are DESIGN CHOICE, log entry 13. -/
def Seq.reset : Seq where
  pos := .idle
  cmd := .getVersion
  blocks := []
  imgBase := 0#32

/-- The machine right after reset (R51), with nothing observed yet and nothing placed in the agenda. -/
def State.reset : State where
  base := 0#32
  imgsel := .bootstub
  len0 := 0#32
  len1 := 0#32
  status := Status.reset
  version := ⟨0#8, false⟩
  chipId := ⟨0#16, false⟩
  page := 0#32
  errInfo := ⟨0#8, false, .none, .none, .bootstub⟩
  errPage := 0#32
  addr := 0#32
  rbuf := []
  lastRx := ⟨0#8, false⟩
  pcnt := 0
  ackres := none
  seq := Seq.reset
  img0 := []
  img1 := []
  inFlight := none
  trace := []
  events := []
  closes := 0
  reads := []
  agenda := []
  params := Config.params

end Sys2Proof.Machine
end

