-- ==== Sys2Proof/Machine/Ops.lean ====
section
/-! DEFINITION. The named operations: image memory, the sequencer's moves, the transfer on the port, events, error entry
(the machine's one way of taking an exception, R258), completion, and the reset input (its one return, R260, R280). -/

namespace Sys2Proof.Machine

/-! ### Image memory -/

/-- The byte at an index, or none if it was not loaded (R61). -/
def Memory.read : Memory → Nat → Option Byte
  | [], _ => none
  | (a, b) :: m, k => if k = a then some b else Memory.read m k

/-- Load a byte, keeping the indices strictly rising (R62). -/
def Memory.write : Memory → Nat → Byte → Memory
  | [], k, x => [(k, x)]
  | (a, b) :: m, k, x =>
    if k < a then (k, x) :: (a, b) :: m
    else if k = a then (k, x) :: m
    else (a, b) :: Memory.write m k x

/-- Every index listed is at least `lo` and they rise strictly. -/
def Memory.risingFrom : Nat → Memory → Bool
  | _, [] => true
  | lo, (a, _) :: m => decide (lo ≤ a) && Memory.risingFrom (a + 1) m

/-- The canonical form: indices strictly rising. No value is what an unlisted index reads as, so no entry is redundant. -/
def Memory.wf (m : Memory) : Bool := Memory.risingFrom 0 m

/-- Buffer s (R61). -/
def State.image (s : State) : ImageSel → Memory
  | .bootstub => s.img0
  | .application => s.img1

/-- LEN0 or LEN1 (R25). -/
def State.imageLen (s : State) : ImageSel → Word
  | .bootstub => s.len0
  | .application => s.len1

/-- Store one byte in buffer `i`. -/
def State.loadByte (s : State) (i : ImageSel) (k : Nat) (b : Byte) : State :=
  match i with
  | .bootstub => { s with img0 := Memory.write s.img0 k b }
  | .application => { s with img1 := Memory.write s.img1 k b }

/-! ### Updates the engine is made of -/

/-- `seq <- p` (R13). -/
def State.setPos (s : State) (p : Pos) : State := { s with seq := { s.seq with pos := p } }

/-- `STATUS.STATE <- e`. -/
def State.setState (s : State) (e : EngineState) : State := { s with status := { s.status with state := e } }

/-- `STATUS.STEP <- c`. -/
def State.setStep (s : State) (c : ClientStep) : State := { s with status := { s.status with step := c } }

/-- `STATUS.PHASE <- p`. -/
def State.setPhase (s : State) (p : Phase) : State := { s with status := { s.status with phase := p } }

/-- `STATUS.HS <- h`. -/
def State.setHs (s : State) (h : Handshake) : State := { s with status := { s.status with hs := h } }

/-- `STATUS.CONNECTED <- c`. -/
def State.setConnected (s : State) (c : Bool) : State := { s with status := { s.status with connected := c } }

/-- `STATUS.OVR <- 1` (R229). -/
def State.setOvr (s : State) : State := { s with status := { s.status with ovr := true } }

/-- `STATUS.CANCEL_PEND <- c` (R31). -/
def State.setCancel (s : State) (c : Bool) : State := { s with status := { s.status with cancelPend := c } }

/-- `emit ev` (R13). -/
def State.emit (s : State) (ev : Event) : State := { s with events := s.events ++ [ev] }

/-! ### The transfer (R110) -/

/-- Put a request on the port: it is outstanding until the link answers. -/
def State.issue (s : State) (tx : Byte) (last : Bool) : State := { s with inFlight := some ⟨tx, last⟩ }

/-- Close the outstanding request `r` with a response, or with none if a reset abandons it (R281). -/
def State.settleTransfer (s : State) (r : Request) (a : Option LinkAnswer) : State :=
  { s with trace := s.trace ++ [⟨r, a⟩], inFlight := none }

/-! ### Errors and completion -/

/-- `raise E(b)` (R258): record the error and enter ERROR. Nothing else changes. -/
def State.raise (s : State) (e : ErrCode) (b : Option Byte) : State :=
  { s with
    status := { s.status with err := e, state := .error }
    errInfo := {
      byte := b.getD 0#8
      byteValid := b.isSome
      phase := s.status.phase
      step := s.status.step
      img := s.status.curImg }
    errPage := s.page
    seq := { s.seq with pos := .error } }

/-- LASTRX as the byte an error records (R258). -/
def State.lastByte (s : State) : Option Byte :=
  if s.lastRx.valid then some s.lastRx.byte else none

/-- The op's body returns without raising: STATE becomes DONE and every other register keeps its value (R231). -/
def State.complete (s : State) : State := (s.setState .done).setPos .done

/-! ### Reset (R280 to R282) -/

/-- The outstanding request, if any, is abandoned: it stays in the wire trace with no response (R281). -/
def State.abandon (s : State) : State :=
  match s.inFlight with
  | none => s
  | some r => s.settleTransfer r none

/-- The reset input (R280): every piece of the engine's state takes its value of R51. What was observed stays (log entry 1),
the parameters are the built engine's, and what the outside world does next is not the engine's. -/
def State.applyReset (s : State) : State :=
  { State.reset with
    trace := s.abandon.trace
    events := s.events
    closes := s.closes
    reads := s.reads
    agenda := s.agenda
    params := s.params }

end Sys2Proof.Machine
end

