-- ==== Sys2Proof/Machine/Operands.lean ====
section
/-! DEFINITION. The operand forms: FrameCodec (41_codec.md), the pages of an image (R138 to R140), the operands of
`send_command` for each wire command (R82, R170), and the argument check of a host op (R221). -/

namespace Sys2Proof.Machine

/-! ### Constants (R7) -/

/-- ERASE_ALL (R7). -/
def eraseAll : Half := 0xFFFF#16

/-- PAD (R7). -/
def padByte : Byte := 0xFF#8

/-- PAGE_SIZE in bytes (R7). -/
def pageSize : Nat := 256

/-- BOOTSTUB_ADDRESS (R7). -/
def bootstubAddress : Word := 0x08000000#32

/-- APP_ADDRESS (R7). -/
def appAddress : Word := 0x08020000#32

/-- ID_MARKER (R7). -/
def idMarker : Byte := 1#8

/-! ### FrameCodec -/

/-- `fold_xor` (R130). -/
def foldXor (bs : List Byte) : Byte := bs.foldl (fun c b => c ^^^ b) 0x00#8

/-- `checksummed_block` (R131). -/
def checksummedBlock (data : List Byte) : List Byte := data ++ [foldXor data]

/-- `be32` (R135). -/
def be32 (a : Word) : List Byte :=
  [a.extractLsb' 24 8, a.extractLsb' 16 8, a.extractLsb' 8 8, a.extractLsb' 0 8]

/-- `be16` (R136). -/
def be16 (v : Half) : List Byte := [v.extractLsb' 8 8, v.extractLsb' 0 8]

/-- `address_block` (R84, R135). -/
def addressBlock (a : Word) : List Byte := checksummedBlock (be32 a)

/-- `erase_block` (R85, R136). -/
def eraseBlock : List Byte := checksummedBlock (be16 eraseAll)

/-- `write_payload_block` (R86, R137). A length outside 1 to 256 has no meaning and is refused. -/
def writePayloadBlock (d : List Byte) : Option (List Byte) :=
  if 1 ≤ d.length ∧ d.length ≤ 256 then
    some (checksummedBlock (BitVec.ofNat 8 (d.length - 1) :: d))
  else none

/-- Chip id assembly (R141). -/
def chipIdOf (hi lo : Byte) : Half := (hi.zeroExtend 16 <<< 8) ||| lo.zeroExtend 16

/-! ### Pages -/

/-- `npages(L)` (R138). -/
def npages (len : Nat) : Nat := (len + 255) / 256

/-- Byte k of an image of `len` bytes, padded past its end (R139). Only an index below `len` is read, and a byte that was
not loaded has no value. -/
def paddedByte (m : Memory) (len k : Nat) : Option Byte :=
  if k < len then Memory.read m k else some padByte

/-- `n` bytes of a padded image from index k on, in rising order (R66, R139). -/
def paddedRun (m : Memory) (len : Nat) : Nat → Nat → Option (List Byte)
  | 0, _ => some []
  | n + 1, k =>
    match paddedByte m len k, paddedRun m len n (k + 1) with
    | some b, some bs => some (b :: bs)
    | _, _ => none

/-- Page i of an image of `len` bytes: 256 bytes, or none if it holds a byte that was not loaded (R139). -/
def pageBytes (m : Memory) (len i : Nat) : Option (List Byte) :=
  paddedRun m len pageSize (pageSize * i)

/-- The address of page i (R140). R221 keeps the exact sum below 2^32 for every page that is sent (log entry 12). -/
def pageAddress (base : Word) (i : Nat) : Word := BitVec.ofNat 32 (base.toNat + pageSize * i)

/-! ### The operands of send_command (R82, R170) -/

/-- The opcode of a wire command (R82). -/
def WireCmd.opcode : WireCmd → Byte
  | .getVersion => opcodeGetVersion
  | .getId => opcodeGetId
  | .globalErase => opcodeGlobalErase
  | .writeMemory => opcodeWriteMemory

/-- The response length of a wire command (R82). -/
def WireCmd.responseLength : WireCmd → Nat
  | .getVersion => 1
  | .getId => 3
  | .globalErase => 0
  | .writeMemory => 0

/-! ### The arguments of a host op -/

/-- A host op code that runs a body (R93). -/
inductive HostOp where
  | connect
  | getVersion
  | getId
  | globalErase
  | programImage
  | flashRun
  deriving DecidableEq, Repr

/-- Host op codes (R93). -/
def HostOp.code : HostOp → BitVec 4
  | .connect => 0x1#4
  | .getVersion => 0x2#4
  | .getId => 0x3#4
  | .globalErase => 0x4#4
  | .programImage => 0x5#4
  | .flashRun => 0x6#4

/-- `fits(L, base)` (R221), without wrap. An empty image fits whatever the capacity and the base are. -/
def fits (maxLen len base : Nat) : Bool :=
  if len = 0 then true
  else decide (len ≤ maxLen) && decide (base + pageSize * npages len - 1 ≤ 0xFFFFFFFF)

/-- `check_args(op)` (R221): true if the request is not rejected. -/
def HostOp.checkArgs (op : HostOp) (s : State) : Bool :=
  match op with
  | .programImage => fits s.params.imgMaxLen (s.imageLen s.imgsel).toNat s.base.toNat
  | .flashRun =>
    fits s.params.imgMaxLen s.len0.toNat bootstubAddress.toNat
      && fits s.params.imgMaxLen s.len1.toNat appAddress.toNat
  | .connect | .getVersion | .getId | .globalErase => true

/-- The start of `body(op)` (R220, R222 to R227). -/
def HostOp.body (op : HostOp) (s : State) : Pos :=
  match op with
  | .connect => .call .connect
  | .getVersion => .call .getVersion
  | .getId => .call .getId
  | .globalErase => .call .globalErase
  | .programImage => .image s.imgsel s.base
  | .flashRun => .call .connect

end Sys2Proof.Machine
end

