-- ==== Sys2Proof/Machine/Flags.lean ====
section
/-! DEFINITION. The condition flag of the engine, its AckState (R48, R150 to R157), and the words the host reads: STATUS and
the other registers as bits (R20 to R44). -/

namespace Sys2Proof.Machine

/-! ### The ack wait's flags -/

/-- Entry to an ack wait (R150, R156, R157): HS is SyncSent, no poll is counted, LASTRX is not valid. -/
def State.enterAckWait (s : State) (e : Element) : State :=
  { (s.setHs .syncSent) with
    pcnt := 0
    lastRx := { s.lastRx with valid := false }
    seq := { s.seq with pos := .poll e } }

/-- A poll has returned a byte (R150, R157): it is counted and LASTRX holds it. -/
def State.countPoll (s : State) (b : Byte) : State :=
  { s with pcnt := s.pcnt + 1, lastRx := ⟨b, true⟩ }

/-- The ack wait resolves (R150, R153, R156): HS and ACKRES hold the result, and the echo comes next (R152). -/
def State.resolve (s : State) (e : Element) (r : AckState) : State :=
  { (s.setHs (match r with | .ack => .acked | .nack => .nacked)) with
    ackres := some r
    seq := { s.seq with pos := .echo e } }

/-- What a poll's byte does (R151): ACK and NACK resolve, any other byte is discarded and polling goes on. -/
def State.pollByte (s : State) (e : Element) (b : Byte) : State :=
  if b = ackByte then (s.countPoll b).resolve e .ack
  else if b = nackByte then (s.countPoll b).resolve e .nack
  else (s.countPoll b).setPos (.pollWait e)

/-- The limit is reached before the next poll: `PCNT = ACK_POLL_LIMIT` with a numeric limit (R150, R154). -/
def State.limitReached (s : State) : Bool :=
  match s.params.ackPollLimit with
  | .unbounded => false
  | .polls m => s.pcnt == m.val + 1

/-! ### Field codes -/

/-- STATUS.STATE as bits (R27). -/
def EngineState.code : EngineState → BitVec 2
  | .idle => 0#2
  | .busy => 1#2
  | .done => 2#2
  | .error => 3#2

/-- STATUS.HS as bits (R30). -/
def Handshake.code : Handshake → BitVec 2
  | .idle => 0#2
  | .syncSent => 1#2
  | .acked => 2#2
  | .nacked => 3#2

/-- STATUS.ERR as bits (R32, R250). -/
def ErrCode.code : ErrCode → BitVec 4
  | .none => 0#4
  | .linkTimeout => 1#4
  | .protocolNack => 2#4
  | .handshakeFailed => 3#4
  | .unexpectedResponse => 4#4
  | .transportError => 5#4
  | .cancelled => 6#4
  | .badRequest => 7#4

/-- STATUS.STEP as bits (R34). -/
def ClientStep.code : ClientStep → BitVec 4
  | .none => 0#4
  | .connect => 1#4
  | .settle => 2#4
  | .getVersion => 3#4
  | .getId => 4#4
  | .globalErase => 5#4
  | .programImage => 6#4
  | .close => 7#4

/-- STATUS.PHASE as bits (R36). -/
def Phase.code : Phase → BitVec 3
  | .none => 0#3
  | .handshake => 1#3
  | .sync => 2#3
  | .cmd => 3#3
  | .block0 => 4#3
  | .block1 => 5#3
  | .resp => 6#3

/-- An image buffer as a bit (R24, R35). -/
def ImageSel.code : ImageSel → BitVec 1
  | .bootstub => 0#1
  | .application => 1#1

/-- The buffer bit 0 of IMGSEL selects (R24). -/
def ImageSel.ofBit (b : Bool) : ImageSel := if b then .application else .bootstub

/-- The phase of an element (R159, R170, R178). -/
def Element.phase : Element → Phase
  | .handshake => .handshake
  | .sync => .sync
  | .cmd => .cmd
  | .block0 => .block0
  | .block1 => .block1
  | .resp => .resp

/-! ### The registers as the host reads them -/

/-- STATUS as a word (R26): bits 7 and 31:24 are reserved and read 0. -/
def Status.word (t : Status) : Word :=
  fieldAt t.state.code 0 ||| fieldAt (BitVec.ofBool t.connected) 2 ||| fieldAt (BitVec.ofBool t.ovr) 3
    ||| fieldAt t.hs.code 4 ||| fieldAt (BitVec.ofBool t.cancelPend) 6 ||| fieldAt t.err.code 8
    ||| fieldAt t.curOp 12 ||| fieldAt t.step.code 16 ||| fieldAt t.curImg.code 20 ||| fieldAt t.phase.code 21

/-- VERSION as a word (R37). -/
def VersionReg.word (v : VersionReg) : Word := fieldAt v.ver 0 ||| fieldAt (BitVec.ofBool v.valid) 8

/-- CHIP_ID as a word (R38). -/
def ChipIdReg.word (c : ChipIdReg) : Word := fieldAt c.id 0 ||| fieldAt (BitVec.ofBool c.valid) 16

/-- ERR_INFO as a word (R40). -/
def ErrInfoReg.word (e : ErrInfoReg) : Word :=
  fieldAt e.byte 0 ||| fieldAt (BitVec.ofBool e.byteValid) 8 ||| fieldAt e.phase.code 9 ||| fieldAt e.step.code 12
    ||| fieldAt e.img.code 16

/-- POLLS: PCNT saturated at 0xFFFFFFFF (R42). -/
def State.polls (s : State) : Word := BitVec.ofNat 32 (min s.pcnt 0xFFFFFFFF)

/-- `RegRead(n)` (R20, R43, R44): write-only and reserved registers read 0, and a read changes nothing (R64). -/
def State.regRead (s : State) (n : BitVec 4) : Word :=
  if n = 0x2#4 then s.base
  else if n = 0x3#4 then fieldAt s.imgsel.code 0
  else if n = 0x4#4 then s.len0
  else if n = 0x5#4 then s.len1
  else if n = 0x6#4 then s.status.word
  else if n = 0x7#4 then s.version.word
  else if n = 0x8#4 then s.chipId.word
  else if n = 0x9#4 then s.page
  else if n = 0xA#4 then s.errInfo.word
  else if n = 0xB#4 then s.errPage
  else if n = 0xC#4 then s.polls
  else 0#32

end Sys2Proof.Machine
end

