-- ==== Sys2Proof/Machine/Client.lean ====
section
/-! DEFINITION. The wire instructions the engine issues: SYNC and the four wire commands, as the client operations of
44_client.md begin them. A meaning runs its operation from its first statement up to the point where its first transfer is
about to be issued (R14, log entries 7 and 16); Machine/Sequence.lean runs it from there. -/

namespace Sys2Proof.Machine

/-- Begin the Write of an element: PHASE names it, and its first byte is about to be sent (R112, R178). -/
def State.beginWrite (s : State) (e : Element) (bs : List Byte) : State :=
  match bs with
  | [] => (s.setPhase e.phase).enterAckWait e
  | b :: rest => (s.setPhase e.phase).setPos (.write e b rest)

/-- Begin `send_command` (R170): its operands are kept, and the SYNC round of step 1 is about to begin (R171). -/
def State.beginCommand (s : State) (c : WireCmd) (blocks : List (List Byte)) : State :=
  State.beginWrite { s with seq := { s.seq with cmd := c, blocks := blocks } } .sync [syncByte]

/-- SYNC: `start_comms` up to its transfer: PHASE is HANDSHAKE and 0x5A is about to be sent (R159). -/
def execSync (s : State) : Host.Outcome State Fault Refusal :=
  .next (s.beginWrite .handshake [syncByte])

/-- `get_bootloader_version()` begins (R191): STEP is GET_VERSION and VERSION is cleared. -/
def State.beginVersion (s : State) : State :=
  State.beginCommand { (s.setStep .getVersion) with version := ⟨0#8, false⟩ } .getVersion []

/-- GET_VERSION (R191). -/
def execGetVersion (s : State) : Host.Outcome State Fault Refusal := .next s.beginVersion

/-- `get_chip_id()` begins (R192): STEP is GET_ID and CHIP_ID is cleared. -/
def State.beginId (s : State) : State :=
  State.beginCommand { (s.setStep .getId) with chipId := ⟨0#16, false⟩ } .getId []

/-- GET_ID (R192). -/
def execGetId (s : State) : Host.Outcome State Fault Refusal := .next s.beginId

/-- `global_erase()` begins (R193): STEP is GLOBAL_ERASE and the erase block is the one payload block. -/
def State.beginErase (s : State) : State :=
  (s.setStep .globalErase).beginCommand .globalErase [eraseBlock]

/-- GLOBAL_ERASE (R193). -/
def execGlobalErase (s : State) : Host.Outcome State Fault Refusal := .next s.beginErase

/-- `write_page(addr, page)` begins with the payload block of its page (R194): ADDR is the page's address, and the address
block and the payload block are the two payload blocks. -/
def State.beginWriteBlocks (s : State) (payload : List Byte) : State :=
  let a := pageAddress s.seq.imgBase s.page.toNat
  State.beginCommand { s with addr := a } .writeMemory [addressBlock a, payload]

/-- WRITE_MEMORY (R194, R195): page PAGE of image CUR_IMG is built and sent to the image's base address + 256 * PAGE. A byte
below the image's length that was not loaded is the model fault, before any transfer of the page (R61). -/
def execWriteMemory (s : State) : Host.Outcome State Fault Refusal :=
  match pageBytes (s.image s.status.curImg) (s.imageLen s.status.curImg).toNat s.page.toNat with
  | none => .fault .unloadedImageByte
  | some d =>
    match writePayloadBlock d with
    | none => .refused .payloadLength
    | some payload => .next (s.beginWriteBlocks payload)

end Sys2Proof.Machine
end

