-- ==== Sys2Proof/Machine/Sequence.lean ====
section
/-! DEFINITION. The sequencer between transfers: what follows a finished Write, a finished Read, a resolved ack wait and a
finished client operation (43_command.md, 44_client.md, 45_orchestrator.md). Everything up to the next transfer happens at
once, at the step boundary after the earlier one (R14). -/

namespace Sys2Proof.Machine

/-- The op in progress is FLASH_RUN (R33, R227). -/
def State.inFlashRun (s : State) : Bool := s.status.curOp == HostOp.flashRun.code

/-! ### The images (R195, R227) -/

/-- `link_close()` and the end of FLASH_RUN (R231, R234). -/
def State.closeLink (s : State) : State :=
  State.complete
    (State.emit { ((s.setStep .close).setConnected false) with closes := s.closes + 1 } .linkClose)

/-- The first statements of `program_image(i, base)` (R195). -/
def State.openImage (s : State) (i : ImageSel) (base : Word) : State :=
  { s with
    status := { s.status with step := .programImage, curImg := i }
    page := 0#32
    seq := { s.seq with imgBase := base } }

/-- The page loop goes on: PAGE is below the image's page count (R138, R195). -/
def State.morePages (s : State) : Bool :=
  decide (s.page.toNat < npages (s.imageLen s.status.curImg).toNat)

/-- The next page begins at once. If it cannot be built, the engine stays in front of it, so that the engine's next step is
the one that stops (log entry 9). -/
def State.beginPage (s : State) : State :=
  match execWriteMemory s with
  | .next t => t
  | .fault _ => s.setPos (.call .writePage)
  | .refused _ => s.setPos (.call .writePage)

/-- FLASH_RUN's second image: its pages, or the close if it is empty (R227). -/
def State.beginApplication (s : State) : State :=
  let t := s.openImage .application appAddress
  if t.morePages then t.beginPage else t.closeLink

/-- `program_image` returns: in FLASH_RUN the next statement of its body, else the op's end (R226, R227). -/
def State.imageDone (s : State) : State :=
  if s.inFlashRun then
    match s.status.curImg with
    | .bootstub => s.beginApplication
    | .application => s.closeLink
  else s.complete

/-- The head of the page loop (R195, R196). -/
def State.nextPage (s : State) : State :=
  if s.morePages then s.beginPage else s.imageDone

/-- `program_image(i, base)` (R195). -/
def State.beginImage (s : State) (i : ImageSel) (base : Word) : State :=
  (s.openImage i base).nextPage

/-! ### The end of a client operation -/

/-- `connect()` succeeds (R190); FLASH_RUN goes on to its settle wait (R235). -/
def State.connectDone (s : State) : State :=
  let t := s.setConnected true
  if t.inFlashRun then (t.setStep .settle).setPos .settle else t.complete

/-- `get_bootloader_version()` returns (R191). -/
def State.versionDone (s : State) : State :=
  let v := s.rbuf.getD 0 0#8
  let t := State.emit { s with version := ⟨v, true⟩ } (.version v)
  if t.inFlashRun then t.beginId else t.complete

/-- `get_chip_id()` checks its marker and returns (R192, R254). -/
def State.idDone (s : State) : State :=
  let marker := s.rbuf.getD 0 0#8
  if marker = idMarker then
    let id := chipIdOf (s.rbuf.getD 1 0#8) (s.rbuf.getD 2 0#8)
    let t := State.emit { s with chipId := ⟨id, true⟩ } (.chipId id)
    if t.inFlashRun then t.beginErase else t.complete
  else s.raise .unexpectedResponse (some marker)

/-- `global_erase()` returns (R193). -/
def State.eraseDone (s : State) : State :=
  let t := s.emit .erased
  if t.inFlashRun then t.beginImage .bootstub bootstubAddress else t.complete

/-- `write_page` returns and the page loop counts the page (R195). -/
def State.pageDone (s : State) : State :=
  State.nextPage
    (State.emit { s with page := s.page + 1#32 }
      (.pageWritten s.status.curImg s.page (pageAddress s.seq.imgBase s.page.toNat)))

/-- `send_command` returns to its caller (R170, R174, R175). -/
def State.commandDone (s : State) : State :=
  match s.seq.cmd with
  | .getVersion => s.versionDone
  | .getId => s.idDone
  | .globalErase => s.eraseDone
  | .writeMemory => s.pageDone

/-! ### Inside send_command -/

/-- After the ack wait of the frame or of a block: the next block in PHASE `e`, or the response, or the return (R173 to
R175). -/
def State.afterBlock (s : State) (e : Element) : State :=
  match s.seq.blocks with
  | b :: rest => State.beginWrite { s with seq := { s.seq with blocks := rest } } e b
  | [] =>
    if s.seq.cmd.responseLength = 0 then s.commandDone
    else (s.setPhase .resp).setPos (.read s.seq.cmd.responseLength [])

/-- An ack wait has returned `true` to its caller (R170, R190). -/
def State.ackTrue (s : State) (e : Element) : State :=
  match e with
  | .handshake => s.connectDone
  | .sync => s.beginWrite .cmd (commandBytes s.seq.cmd.opcode)
  | .cmd => s.afterBlock .block0
  | .block0 => s.afterBlock .block1
  | .block1 => s.afterBlock .block1
  | .resp => s.commandDone

/-- An ack wait has returned `false` to its caller: HANDSHAKE_FAILED in `connect` (R190, R253), PROTOCOL_NACK in
`send_command` (R176, R252). -/
def State.ackFalse (s : State) (e : Element) : State :=
  match e with
  | .handshake => s.raise .handshakeFailed (some nackByte)
  | .sync | .cmd | .block0 | .block1 | .resp => s.raise .protocolNack (some nackByte)

/-- `get_ack` returns after its echo; the caller reads ACKRES (R48, R153). -/
def State.ackReturn (s : State) (e : Element) : State :=
  match s.ackres with
  | some .ack => s.ackTrue e
  | some .nack => s.ackFalse e
  | none => s.ackFalse e

/-- A Read of a response ends: the first byte is discarded and the rest go to RBUF (R170, R175). -/
def State.readDone (s : State) (r : List Byte) : State :=
  State.enterAckWait { s with rbuf := r.drop 1 } .resp

/-- The outstanding transfer returned a byte: what the position makes of it (R90, R111 to R113, R150). -/
def State.gotByte (s : State) (b : Byte) : State :=
  match s.seq.pos with
  | .write e _ (c :: rest) => s.setPos (.write e c rest)
  | .write e _ [] => s.enterAckWait e
  | .read (n + 1) got => s.setPos (.read n (got ++ [b]))
  | .read 0 got => s.readDone (got ++ [b])
  | .poll e => s.pollByte e b
  | .echo e => s.ackReturn e
  | .idle | .done | .error | .settle => s
  | .call _ | .image _ _ | .pollWait _ => s

end Sys2Proof.Machine
end

