-- ==== Sys2Proof/Machine/HostOps.lean ====
section
/-! DEFINITION. What the host does: the host ops a CTRL write starts (R220 to R228), the writes of the other registers, and
image loads (R62, R229, R230). -/

namespace Sys2Proof.Machine

/-- The fields an accepted request sets (R220). -/
def State.acceptFields (s : State) (code : BitVec 4) : State :=
  { s with status := { s.status with curOp := code, step := .none, phase := .none, cancelPend := false } }

/-- A CTRL write (R220): ignored with OVR while BUSY, ignored in ERROR, else accepted. -/
def State.ctrlWrite (s : State) (code : BitVec 4) (run : State → State) : State :=
  match s.status.state with
  | .busy => s.setOvr
  | .error => s
  | .idle | .done => run (s.acceptFields code)

/-- The end of the acceptance step (R220, R221): BAD_REQUEST, or BUSY at the start of the body. -/
def State.startOp (s : State) (op : HostOp) : State :=
  if op.checkArgs s then (s.setState .busy).setPos (op.body s)
  else s.raise .badRequest none

/-- op CONNECT (R222). -/
def execOpConnect (s : State) : Host.Outcome State Fault Refusal :=
  .next (s.ctrlWrite HostOp.connect.code (fun t => t.startOp .connect))

/-- op GET_VERSION (R223). -/
def execOpGetVersion (s : State) : Host.Outcome State Fault Refusal :=
  .next (s.ctrlWrite HostOp.getVersion.code (fun t => t.startOp .getVersion))

/-- op GET_ID (R224). -/
def execOpGetId (s : State) : Host.Outcome State Fault Refusal :=
  .next (s.ctrlWrite HostOp.getId.code (fun t => t.startOp .getId))

/-- op GLOBAL_ERASE (R225). -/
def execOpGlobalErase (s : State) : Host.Outcome State Fault Refusal :=
  .next (s.ctrlWrite HostOp.globalErase.code (fun t => t.startOp .globalErase))

/-- op PROGRAM_IMAGE (R226). -/
def execOpProgramImage (s : State) : Host.Outcome State Fault Refusal :=
  .next (s.ctrlWrite HostOp.programImage.code (fun t => t.startOp .programImage))

/-- op FLASH_RUN (R227). -/
def execOpFlashRun (s : State) : Host.Outcome State Fault Refusal :=
  .next (s.ctrlWrite HostOp.flashRun.code (fun t => t.startOp .flashRun))

/-- A reserved host op (R228): BAD_REQUEST in the acceptance step. -/
def execOpReserved (op : BitVec 4) (s : State) : Host.Outcome State Fault Refusal :=
  .next (s.ctrlWrite op (fun t => t.raise .badRequest none))

/-! ### The other host accesses -/

/-- STATE = BUSY (R27). -/
def State.isBusy (s : State) : Bool := decide (s.status.state = .busy)

/-- A CANCEL write (R22, R230): REQ = 1 sets the latch while BUSY, and nothing else happens. -/
def State.writeCancel (s : State) (v : Word) : State :=
  if v.getLsbD 0 && s.isBusy then s.setCancel true else s

/-- A write or load the engine ignores while BUSY, setting OVR (R229), and else takes. -/
def State.unlessBusy (s : State) (taken : State) : State :=
  if s.isBusy then s.setOvr else taken

/-- `RegWrite(n, v)` for every index but CTRL (R20 to R25, R43, R44). -/
def State.regWrite (s : State) (n : BitVec 4) (v : Word) : State :=
  if n = 0x1#4 then s.writeCancel v
  else if n = 0x2#4 then s.unlessBusy { s with base := v }
  else if n = 0x3#4 then s.unlessBusy { s with imgsel := ImageSel.ofBit (v.getLsbD 0) }
  else if n = 0x4#4 then s.unlessBusy { s with len0 := v }
  else if n = 0x5#4 then s.unlessBusy { s with len1 := v }
  else s

/-- `ImgLoad(i, k, b)` (R62, R229). -/
def State.imgLoad (s : State) (i : ImageSel) (k : Nat) (b : Byte) : State :=
  s.unlessBusy (if k < s.params.imgMaxLen then s.loadByte i k b else s)

/-- `RegRead(n)` (R20, R64): the engine does not change, and the host has the value. -/
def State.logRead (s : State) (n : BitVec 4) : State :=
  { s with reads := s.reads ++ [⟨n, s.regRead n⟩] }

end Sys2Proof.Machine
end

