-- ==== Sys2Proof/Machine/Link.lean ====
section
/-! DEFINITION. The control bytes the link sends: ACK and NACK, as answers to the outstanding transfer (R80, R90, R110). -/

namespace Sys2Proof.Machine

/-- The link answers (R110). With no transfer outstanding nothing can reach the engine (R116) and a late response is
dropped (R281). `xerr` raises TRANSPORT_ERROR at that transfer (R114, R255). -/
def State.receive (s : State) (a : LinkAnswer) : State :=
  match s.inFlight with
  | none => s
  | some r =>
    match a with
    | .xerr => (s.settleTransfer r (some .xerr)).raise .transportError none
    | .byte b => (s.settleTransfer r (some (.byte b))).gotByte b

/-- ACK received: it resolves a poll to `true` (R150, R151); on any other transfer it is a byte like any other (R90). -/
def execAck (s : State) : Host.Outcome State Fault Refusal := .next (s.receive (.byte ackByte))

/-- NACK received: it resolves a poll to `false` (R150, R151); on any other transfer it is a byte like any other (R90). -/
def execNack (s : State) : Host.Outcome State Fault Refusal := .next (s.receive (.byte nackByte))

end Sys2Proof.Machine
end

