-- ==== Sys2Proof/Machine/Dispatch.lean ====
section
/-! DEFINITION. The one dispatch: each instruction's meaning. -/

namespace Sys2Proof.Machine

def exec (i : Instr) (s : State) : Host.Outcome State Fault Refusal :=
  match i with
  | .getVersion => Sys2Proof.Machine.execGetVersion s
  | .getId => Sys2Proof.Machine.execGetId s
  | .globalErase => Sys2Proof.Machine.execGlobalErase s
  | .writeMemory => Sys2Proof.Machine.execWriteMemory s
  | .sync => Sys2Proof.Machine.execSync s
  | .ack => Sys2Proof.Machine.execAck s
  | .nack => Sys2Proof.Machine.execNack s
  | .opConnect _ => Sys2Proof.Machine.execOpConnect s
  | .opGetVersion _ => Sys2Proof.Machine.execOpGetVersion s
  | .opGetId _ => Sys2Proof.Machine.execOpGetId s
  | .opGlobalErase _ => Sys2Proof.Machine.execOpGlobalErase s
  | .opProgramImage _ => Sys2Proof.Machine.execOpProgramImage s
  | .opFlashRun _ => Sys2Proof.Machine.execOpFlashRun s
  | .opReserved op _ => Sys2Proof.Machine.execOpReserved op s

end Sys2Proof.Machine
end

