-- ==== Sys2Proof/Machine/Fetch.lean ====
section
/-! DEFINITION. Where the next instruction comes from. The engine fetches nothing from a memory (R76): its instructions are
the CTRL words the host writes, the control bytes the link answers with, and the client operations the sequencer begins.
The agenda says which agent moves next (R74, log entry 2). -/

namespace Sys2Proof.Machine

/-- What the next step is: an instruction to run and the state to run it in, or a move that is no instruction, already
made. -/
inductive Fetched where
  | instr (i : Instr) (s : State)
  | moved (s : State)
  deriving DecidableEq, Repr

/-- The wire instruction a client operation is (R159, R191 to R194). -/
def ClientCall.instr : ClientCall → Instr
  | .connect => .sync
  | .getVersion => .getVersion
  | .getId => .getId
  | .globalErase => .globalErase
  | .writePage => .writeMemory

/-- What the caller does before the wire instruction: `connect()` sets STEP (R190). -/
def State.beforeCall (s : State) : ClientCall → State
  | .connect => s.setStep .connect
  | .getVersion | .getId | .globalErase | .writePage => s

/-- The start of a poll iteration (R150): cancel, then timeout, then the poll (R154, R155, R262). -/
def State.pollIteration (s : State) : State :=
  if s.status.cancelPend then (s.setCancel false).raise .cancelled s.lastByte
  else if s.limitReached then s.raise .linkTimeout s.lastByte
  else s.issue s.params.dummyTx true

/-- The engine's move at its position, with no transfer outstanding. -/
def State.moveAt (s : State) : Fetched :=
  match s.seq.pos with
  | .call c => .instr c.instr (s.beforeCall c)
  | .image i base => .moved (s.beginImage i base)
  | .write _ b rest => .moved (s.issue b rest.isEmpty)
  | .read more _ => .moved (s.issue s.params.dummyTx (more == 0))
  | .poll _ => .moved s.pollIteration
  | .pollWait e => .moved (s.setPos (.poll e))
  | .echo _ => .moved (s.issue ackByte true)
  | .settle => .instr .getVersion s
  | .idle | .done | .error => .moved s

/-- The engine's move: none in IDLE, DONE and ERROR (R46, R270), and none while a transfer is outstanding (R110, R115). -/
def State.engineMove (s : State) : Fetched :=
  match s.status.state, s.inFlight with
  | .busy, none => s.moveAt
  | .busy, some _ => .moved s
  | .idle, _ | .done, _ | .error, _ => .moved s

/-- The link's answer: ACK and NACK are instructions, any other byte and `xerr` are not. -/
def State.deliver (s : State) (a : LinkAnswer) : Fetched :=
  match a with
  | .xerr => .moved (s.receive .xerr)
  | .byte b =>
    match decodeRx b with
    | some i => .instr i s
    | none => .moved (s.receive (.byte b))

/-- A host register write: a CTRL write is an instruction (R21, R92). -/
def State.hostWrite (s : State) (n : BitVec 4) (v : Word) : Fetched :=
  if n = 0x0#4 then .instr (decodeCtrl v) s else .moved (s.regWrite n v)

/-- One move of the agenda. -/
def State.takeTurn (s : State) : Turn → Fetched
  | .engine => s.engineMove
  | .link a => s.deliver a
  | .regWrite n v => s.hostWrite n v
  | .regRead n => .moved (s.logRead n)
  | .imgLoad i k b => .moved (s.imgLoad i k b)
  | .reset => .moved s.applyReset

/-- The next step. With the agenda used up, the world outside does nothing more than answer: an outstanding transfer gets
the free answer of R117, and otherwise the engine moves. -/
def State.fetch (s : State) : Fetched :=
  match s.agenda with
  | t :: rest => State.takeTurn { s with agenda := rest } t
  | [] =>
    match s.inFlight with
    | some _ => s.deliver (Config.linkAnswer s.wireTrace)
    | none => s.engineMove

/-! ### Placing an instruction where the next step takes it (log entry 18) -/

/-- The engine BUSY in front of a client operation, with the next move its own. -/
def State.placeCall (s : State) (c : ClientCall) : State :=
  { ((s.setState .busy).setPos (.call c)) with inFlight := none, agenda := .engine :: s.agenda }

/-- The link about to answer with a byte; if no transfer is outstanding, the engine is BUSY with a poll of the connect ack
wait outstanding. -/
def State.placeAnswer (s : State) (b : Byte) : State :=
  match s.inFlight with
  | some _ => { s with agenda := .link (.byte b) :: s.agenda }
  | none =>
    { (((s.setState .busy).setPos (.poll .handshake)).issue s.params.dummyTx true) with
      agenda := .link (.byte b) :: s.agenda }

/-- The host about to write a word to CTRL. -/
def State.placeCtrl (s : State) (v : Word) : State :=
  { s with agenda := .regWrite 0x0#4 v :: s.agenda }

/-- An instruction placed where the next step takes it. -/
def State.place (s : State) : Instr → State
  | .sync => s.placeCall .connect
  | .getVersion => s.placeCall .getVersion
  | .getId => s.placeCall .getId
  | .globalErase => s.placeCall .globalErase
  | .writeMemory => s.placeCall .writePage
  | .ack => s.placeAnswer ackByte
  | .nack => s.placeAnswer nackByte
  | .opConnect ign => s.placeCtrl (ctrlWord 0x1#4 ign)
  | .opGetVersion ign => s.placeCtrl (ctrlWord 0x2#4 ign)
  | .opGetId ign => s.placeCtrl (ctrlWord 0x3#4 ign)
  | .opGlobalErase ign => s.placeCtrl (ctrlWord 0x4#4 ign)
  | .opProgramImage ign => s.placeCtrl (ctrlWord 0x5#4 ign)
  | .opFlashRun ign => s.placeCtrl (ctrlWord 0x6#4 ign)
  | .opReserved op ign => s.placeCtrl (ctrlWord op ign)

/-- The table row's word placed, if the decoder reads an instruction from it. -/
def State.placeWord (s : State) (nbits w : Nat) : State :=
  match decodeTableWord nbits w with
  | some i => s.place i
  | none => s

end Sys2Proof.Machine
end

