-- ==== Sys2Proof/Machine/Step.lean ====
section
/-! DEFINITION. The step: the next move, and the meaning of its instruction if it is one. -/

namespace Sys2Proof.Machine

/-- One step of the machine. -/
def step (s : State) : Host.Outcome State Fault Refusal :=
  match s.fetch with
  | .instr i t => exec i t
  | .moved t => .next t

/-- `s` with the instruction of a table row's word placed where the next step takes it (log entry 18). -/
def State.withFetchWord (s : State) (nbits w : Nat) : State := s.placeWord nbits w

end Sys2Proof.Machine
end

