-- ==== Sys2Proof/Safety.lean ====
section
/-! DEFINITION. What holds of every state a run can reach (`State.Inv`, clause by clause with the rule it comes from), and
the vocabulary in which statements about runs are written. -/

namespace Sys2Proof.Machine

/-! ### The sequencer's position -/

/-- The STATE a position belongs to (R27, R46). -/
def Pos.engineState : Pos → EngineState
  | .idle => .idle
  | .done => .done
  | .error => .error
  | .call _ | .image _ _ | .write _ _ _ | .read _ _ => .busy
  | .poll _ | .pollWait _ | .echo _ | .settle => .busy

/-- The request the engine makes at a position, if it makes one there (R111 to R113, R150, R152). -/
def Pos.request (p : Params) : Pos → Option Request
  | .write _ b rest => some ⟨b, rest.isEmpty⟩
  | .read more _ => some ⟨p.dummyTx, more == 0⟩
  | .poll _ => some ⟨p.dummyTx, true⟩
  | .echo _ => some ⟨ackByte, true⟩
  | .idle | .done | .error | .call _ | .image _ _ | .pollWait _ | .settle => none

/-- The element whose exchange or ack wait is in progress at a position (R36, R178). -/
def Pos.element : Pos → Option Element
  | .write e _ _ | .poll e | .pollWait e | .echo e => some e
  | .read _ _ => some .resp
  | .idle | .done | .error | .call _ | .image _ _ | .settle => none

/-- The client step a wire command is issued in (R191 to R195). -/
def WireCmd.clientStep : WireCmd → ClientStep
  | .getVersion => .getVersion
  | .getId => .getId
  | .globalErase => .globalErase
  | .writeMemory => .programImage

/-- The client step an element belongs to: the connect handshake to CONNECT, any other to the command in progress. -/
def Element.clientStep (c : WireCmd) : Element → ClientStep
  | .handshake => .connect
  | .sync | .cmd | .block0 | .block1 | .resp => c.clientStep

/-- The polls one ack wait may make, if they are limited (R154). -/
def pollBound : PollLimit → Option Nat
  | .unbounded => none
  | .polls m => some (m.val + 1)

/-! ### The invariant -/

/-- The image the page loop is in passed the argument check with its base address, and still has page PAGE (R195, R221). -/
def State.PageOpen (s : State) : Prop :=
  fits s.params.imgMaxLen (s.imageLen s.status.curImg).toNat s.seq.imgBase.toNat = true
    ∧ s.page.toNat < npages (s.imageLen s.status.curImg).toNat

/-- What every reachable state meets. -/
structure State.Inv (s : State) : Prop where
  /-- Both image buffers are in canonical form. -/
  imagesCanonical : Memory.wf s.img0 = true ∧ Memory.wf s.img1 = true
  /-- Only bytes below IMG_MAX_LEN are ever loaded (R61, R62). -/
  imagesWithin : ∀ i k b, Memory.read (s.image i) k = some b → k < s.params.imgMaxLen
  /-- STATE = ERROR if and only if ERR ≠ 0 (R32). -/
  errorIff : s.status.state = .error ↔ s.status.err ≠ .none
  /-- STATE and the sequencer's position agree (R27, R46). -/
  posState : s.status.state = s.seq.pos.engineState
  /-- While BUSY the op is one of the six that have a body (R220). -/
  opHasBody : s.status.state = .busy → ∃ op : HostOp, s.status.curOp = op.code
  /-- An outstanding request is the one the engine makes at its position (R111, R115). -/
  portMatches : ∀ r, s.inFlight = some r → s.seq.pos.request s.params = some r
  /-- A result whose valid bit is 0 reads 0 (R50). -/
  resultsZero : (s.version.valid = false → s.version.ver = 0#8) ∧ (s.chipId.valid = false → s.chipId.id = 0#16)
  /-- RBUF holds at most 3 bytes (R45). -/
  rbufShort : s.rbuf.length ≤ 3
  /-- A response read has as many bytes to go as the command's response still lacks (R175). -/
  readLength : ∀ n got, s.seq.pos = .read n got → n + got.length = s.seq.cmd.responseLength
  /-- No payload block is empty: the engine makes no call of no bytes (R111). -/
  blocksNonempty : ∀ b ∈ s.seq.blocks, b ≠ []
  /-- HS Acked and Nacked are the fact ACKRES holds, and HS Idle means no ack wait since reset (R30, R45, R51). -/
  hsAckres : (s.status.hs = .acked → s.ackres = some .ack) ∧ (s.status.hs = .nacked → s.ackres = some .nack)
    ∧ (s.status.hs = .idle → s.ackres = none)
  /-- HS is SyncSent throughout an ack wait, and Acked or Nacked at its echo (R30, R156). -/
  hsAtPosition : (∀ e, s.seq.pos = .poll e ∨ s.seq.pos = .pollWait e → s.status.hs = .syncSent)
    ∧ (∀ e, s.seq.pos = .echo e → s.status.hs = .acked ∨ s.status.hs = .nacked)
  /-- No ack wait makes more polls than the limit (R154, R160). -/
  pollsBounded : ∀ n, pollBound s.params.ackPollLimit = some n →
    s.pcnt ≤ n ∧ (∀ r e, s.inFlight = some r → s.seq.pos = .poll e → s.pcnt < n)
  /-- PAGE cannot exceed ceil(IMG_MAX_LEN / 256) (R39). -/
  pageBounded : s.page.toNat ≤ npages s.params.imgMaxLen
  /-- STATUS.STEP and STATUS.PHASE name the element in progress (R34, R36, R178). -/
  elementShown : ∀ e, s.seq.pos.element = some e →
    s.status.step = e.clientStep s.seq.cmd ∧ s.status.phase = e.phase
  /-- In front of a page the step is PROGRAM_IMAGE; in front of an image no step has begun (R34, R195). -/
  stepShown : (s.seq.pos = .call .writePage → s.status.step = .programImage)
    ∧ (∀ c, c ≠ .writePage → s.seq.pos = .call c → s.status.step = .none)
    ∧ (∀ i b, s.seq.pos = .image i b → s.status.step = .none)
    ∧ (s.seq.pos = .settle → s.status.step = .settle)
  /-- The arguments checked at acceptance still hold while the op runs (R221, R229). -/
  argsHold : (s.status.state = .busy → s.inFlashRun = true →
      fits s.params.imgMaxLen s.len0.toNat bootstubAddress.toNat = true
        ∧ fits s.params.imgMaxLen s.len1.toNat appAddress.toNat = true)
    ∧ (∀ i b, s.seq.pos = .image i b → fits s.params.imgMaxLen (s.imageLen i).toNat b.toNat = true)
    ∧ (s.status.state = .busy → s.status.step = .programImage → s.PageOpen)
  /-- While a page is sent, ADDR is its address (R45, R140). -/
  addrShown : ∀ e, s.seq.pos.element = some e → e ≠ .handshake → s.seq.cmd = .writeMemory →
    s.addr = pageAddress s.seq.imgBase s.page.toNat

/-! ### Words for runs -/

/-- One transfer, seen from the agenda: the engine issues its request and the link answers with a byte. -/
def transferTurns (x : Byte) : List Turn := [.engine, .link (.byte x)]

/-- Transfers one after the other, answered with the given bytes. -/
def transfersTurns (xs : List Byte) : List Turn := xs.flatMap transferTurns

/-- Polls that return bytes which are neither ACK nor NACK, each followed by its wait (R151, R158). -/
def discardedTurns (xs : List Byte) : List Turn := xs.flatMap (fun x => [.engine, .link (.byte x), .engine])

/-- The trace entries of an exchange call that sends `out` and is answered with `inn`, byte by byte: `last` is set on the
final byte only (R111). -/
def callEntries : List Byte → List Byte → List Transfer
  | b :: bs, x :: xs => ⟨⟨b, bs.isEmpty⟩, some (.byte x)⟩ :: callEntries bs xs
  | [], _ => []
  | _ :: _, [] => []

/-- The trace entries of one-byte exchange calls that send `b` and are answered with `inn` in turn: polls and echoes. -/
def singleEntries (b : Byte) (inn : List Byte) : List Transfer :=
  inn.map (fun x => ⟨⟨b, true⟩, some (.byte x)⟩)

/-- A byte a poll discards (R151). -/
def discarded (b : Byte) : Bool := b != ackByte && b != nackByte

/-- A numeric poll limit is above `k`, or there is none. -/
def State.allowsPolls (s : State) (k : Nat) : Prop := ∀ n, pollBound s.params.ackPollLimit = some n → k ≤ n

/-- The next step is the engine's move, made in `u`: the agenda says so, or it is used up and no transfer is outstanding. -/
def State.engineNext (s u : State) : Prop :=
  (∃ rest, s.agenda = .engine :: rest ∧ u = { s with agenda := rest })
    ∨ (s.agenda = [] ∧ s.inFlight = none ∧ u = s)

/-- The next step is the link's answer `a` to the outstanding request `r`, taken in `u`: the agenda names it, or it is used
up and the answer is the free one (R117). -/
def State.answerNext (s u : State) (r : Request) (a : LinkAnswer) : Prop :=
  s.inFlight = some r
    ∧ ((∃ rest, s.agenda = .link a :: rest ∧ u = { s with agenda := rest })
      ∨ (s.agenda = [] ∧ a = Config.linkAnswer s.wireTrace ∧ u = s))

/-- The next step is a host access or a reset, `tn`, made in `u`. -/
def State.turnNext (s u : State) (tn : Turn) : Prop :=
  ∃ rest, s.agenda = tn :: rest ∧ u = { s with agenda := rest }

/-- The step from `s` begins the page `z` is in front of: it ends where WRITE_MEMORY run in `z` ends (R195). A page that
cannot be built leaves the engine in front of it, so that its next step stops (R61, log entry 9). -/
def State.beginsPage (s z : State) : Prop :=
  (∀ t, exec .writeMemory z = .next t → step s = .next t)
    ∧ (∀ f, exec .writeMemory z = .fault f → step s = .next { z with seq := { z.seq with pos := .call .writePage } })

/-- The step from `s` closes the link in `z` and ends FLASH_RUN: the CLOSE step, the `close` indication, CONNECTED = 0,
LINK_CLOSE, and DONE (R231, R232, R234). -/
def State.closesLink (s z : State) : Prop :=
  step s = .next { z with
    events := z.events ++ [.linkClose]
    closes := z.closes + 1
    status := { z.status with step := .close, connected := false, state := .done }
    seq := { z.seq with pos := .done } }

/-- The engine can take a CTRL write (R220): IDLE or DONE. -/
def State.accepts (s : State) : Prop := s.status.state = .idle ∨ s.status.state = .done

end Sys2Proof.Machine
end

