-- ==== Sys2Proof/Certificates/Slice0/Obligations.lean ====
section
/-! DEFINITION. The statements for the provers, each from the rules of spec/ its docstring names. An equation
`exec i s = .next t` with `t` written as an update of `s` is also the frame: every field the update does not name, every
byte of both images among them, is as it was in `s`. -/

open Sys2Proof Sys2Proof.Machine

/-! ### Encodings -/

/-- O1. Decoding the encoding of a well-formed instruction gives it back, for every instruction and every value of the bits
a host op ignores (R80 to R82, R92 to R94). -/
def Obligations.DecodeOfEncode : Prop :=
  ∀ i : Instr, i.wf = true → decode (encode i) = some i

/-- O2. Every CTRL word is a well-formed host op (R92 to R94), and no bit of it is lost. The second clause is the model's own
choice, not the spec's: a host op carries the 28 bits that R92 says are ignored (log entry 24). -/
def Obligations.CtrlWordsAllDecode : Prop :=
  ∀ v : Word, (decodeCtrl v).wf = true ∧ encode (decodeCtrl v) = .ctrl v

/-- O3. What the wire decoder reads is exactly the encoding of the instruction it gives (R80, R81). -/
def Obligations.WireDecodeSound : Prop :=
  ∀ (bs : List Byte) (i : Instr) (rest : List Byte), decodeWire bs = .instr i rest →
    ∃ es, encode i = .wire es ∧ bs = es ++ rest

/-- O4. Bytes that are none of the control bytes and opcodes, an opcode without its complement, and an opcode alone are
rejected by name (R80 to R82, R91). -/
def Obligations.WireDecodeRejects : Prop :=
  ∀ (b c : Byte) (rest : List Byte),
    (b ∉ [0x5A#8, 0x79#8, 0x1F#8, 0x01#8, 0x02#8, 0x44#8, 0x31#8] → decodeWire (b :: rest) = .reject .notAnOpcode)
      ∧ (b ∈ [0x01#8, 0x02#8, 0x44#8, 0x31#8] → b ^^^ c ≠ 0xFF#8 →
          decodeWire (b :: c :: rest) = .reject .badComplement)
      ∧ (b ∈ [0x01#8, 0x02#8, 0x44#8, 0x31#8] → decodeWire [b] = .reject .truncatedFrame)

/-- O5. The words of the opcode table, written out from R80, R82 and R93, decode to the instructions they stand for. -/
def Obligations.TableWordsDecode : Prop :=
  decodeWire [0x01#8, 0xFE#8] = .instr .getVersion [] ∧ decodeWire [0x02#8, 0xFD#8] = .instr .getId []
    ∧ decodeWire [0x44#8, 0xBB#8] = .instr .globalErase [] ∧ decodeWire [0x31#8, 0xCE#8] = .instr .writeMemory []
    ∧ decodeWire [0x5A#8] = .instr .sync [] ∧ decodeWire [0x79#8] = .instr .ack []
    ∧ decodeWire [0x1F#8] = .instr .nack []
    ∧ decodeCtrl 0x00000001#32 = .opConnect 0#28 ∧ decodeCtrl 0x00000002#32 = .opGetVersion 0#28
    ∧ decodeCtrl 0x00000003#32 = .opGetId 0#28 ∧ decodeCtrl 0x00000004#32 = .opGlobalErase 0#28
    ∧ decodeCtrl 0x00000005#32 = .opProgramImage 0#28 ∧ decodeCtrl 0x00000006#32 = .opFlashRun 0#28
    ∧ decodeCtrl 0x00000000#32 = .opReserved 0x0#4 0#28 ∧ decodeCtrl 0x0000000F#32 = .opReserved 0xF#4 0#28
    ∧ decodeCtrl 0x00000011#32 = .opConnect 1#28

/-! ### FrameCodec and pages -/

/-- O6. A checksummed block XORs to zero (R132). -/
def Obligations.ChecksummedBlockFoldsToZero : Prop :=
  ∀ bs : List Byte, foldXor (checksummedBlock bs) = 0x00#8

/-- O7. The two bytes of a command frame XOR to 0xFF (R134), and they are the opcode and its complement (R133). -/
def Obligations.CommandBytesComplement : Prop :=
  ∀ op : Byte, commandBytes op = [op, op ^^^ 0xFF#8] ∧ op ^^^ not8 op = 0xFF#8

/-- O8. The address block, byte by byte: big-endian, then the XOR of the four (R84, R135). -/
def Obligations.AddressBlockBytes : Prop :=
  ∀ a : Word, ∃ b3 b2 b1 b0 : Byte, addressBlock a = [b3, b2, b1, b0, b3 ^^^ b2 ^^^ b1 ^^^ b0]
    ∧ a.toNat = 16777216 * b3.toNat + 65536 * b2.toNat + 256 * b1.toNat + b0.toNat

/-- O9. The erase block is `FF FF 00` (R85, R136), and the chip id is the big-endian pair (R141). -/
def Obligations.EraseBlockAndChipId : Prop :=
  eraseBlock = [0xFF#8, 0xFF#8, 0x00#8] ∧ (∀ hi lo : Byte, (chipIdOf hi lo).toNat = 256 * hi.toNat + lo.toNat)

/-- O10. The write payload block of N bytes, 1 ≤ N ≤ 256: byte N - 1, the data, and the checksum, which makes the block XOR
to zero. Any other length has no block (R86, R137). -/
def Obligations.PayloadBlockBytes : Prop :=
  ∀ d : List Byte,
    (1 ≤ d.length → d.length ≤ 256 → ∃ c n : Byte,
        writePayloadBlock d = some (n :: d ++ [c]) ∧ n.toNat = d.length - 1 ∧ foldXor (n :: d ++ [c]) = 0x00#8)
      ∧ (d.length = 0 ∨ 256 < d.length → writePayloadBlock d = none)

/-- O11. `npages(L)` is the least number of 256-byte pages that hold L bytes (R138). -/
def Obligations.PageCountIsCeiling : Prop :=
  ∀ len : Nat, len ≤ 256 * npages len ∧ (∀ n, len ≤ 256 * n → npages len ≤ n)

/-- O12. Page i: 256 bytes, byte j the image's byte 256 * i + j if that is below L and 0xFF otherwise, as soon as every
image byte in it was loaded (R139). -/
def Obligations.PageContents : Prop :=
  ∀ (m : Memory) (len i : Nat),
    (∀ j, j < 256 → 256 * i + j < len → ∃ b, Memory.read m (256 * i + j) = some b) →
    ∃ d, pageBytes m len i = some d ∧ d.length = 256
      ∧ ∀ j, j < 256 →
        (256 * i + j < len → d[j]? = Memory.read m (256 * i + j)) ∧ (len ≤ 256 * i + j → d[j]? = some 0xFF#8)

/-- O13. The page addresses of an image that passed the argument check are exact sums, end at or below 0xFFFFFFFF, and rise
strictly (R140, R221). -/
def Obligations.PageAddressesExact : Prop :=
  ∀ (maxLen len : Nat) (base : Word) (i : Nat), fits maxLen len base.toNat = true → i < npages len →
    (pageAddress base i).toNat = base.toNat + 256 * i ∧ (pageAddress base i).toNat + 255 ≤ 0xFFFFFFFF
      ∧ ∀ j, j < i → (pageAddress base j).toNat < (pageAddress base i).toNat

/-! ### The host's registers -/

/-- O14. STATUS bit by bit (R26), with the codes of its fields (R27, R30, R32, R34, R36). -/
def Obligations.StatusLayout : Prop :=
  (∀ t : Status,
    t.word.extractLsb' 0 2 = t.state.code ∧ t.word.getLsbD 2 = t.connected ∧ t.word.getLsbD 3 = t.ovr
      ∧ t.word.extractLsb' 4 2 = t.hs.code ∧ t.word.getLsbD 6 = t.cancelPend ∧ t.word.getLsbD 7 = false
      ∧ t.word.extractLsb' 8 4 = t.err.code ∧ t.word.extractLsb' 12 4 = t.curOp
      ∧ t.word.extractLsb' 16 4 = t.step.code ∧ t.word.extractLsb' 20 1 = t.curImg.code
      ∧ t.word.extractLsb' 21 3 = t.phase.code ∧ t.word.extractLsb' 24 8 = 0#8)
    ∧ [EngineState.idle, .busy, .done, .error].map EngineState.code = [0#2, 1#2, 2#2, 3#2]
    ∧ [Handshake.idle, .syncSent, .acked, .nacked].map Handshake.code = [0#2, 1#2, 2#2, 3#2]
    ∧ [ErrCode.none, .linkTimeout, .protocolNack, .handshakeFailed, .unexpectedResponse, .transportError, .cancelled,
        .badRequest].map ErrCode.code = [0#4, 1#4, 2#4, 3#4, 4#4, 5#4, 6#4, 7#4]
    ∧ [ClientStep.none, .connect, .settle, .getVersion, .getId, .globalErase, .programImage, .close].map ClientStep.code
        = [0#4, 1#4, 2#4, 3#4, 4#4, 5#4, 6#4, 7#4]
    ∧ [Phase.none, .handshake, .sync, .cmd, .block0, .block1, .resp].map Phase.code
        = [0#3, 1#3, 2#3, 3#3, 4#3, 5#3, 6#3]
    ∧ [ImageSel.bootstub, .application].map ImageSel.code = [0#1, 1#1]

/-- O15. A host read of each index in every state: step leaves everything as it was but for the value the host now has,
and the value is that of the register map (R20, R37 to R44, R64). -/
def Obligations.RegisterReads : Prop :=
  ∀ (s u : State) (n : BitVec 4), s.turnNext u (.regRead n) →
    ∃ v, step s = .next { u with reads := u.reads ++ [⟨n, v⟩] }
      ∧ (n = 0x0#4 → v = 0#32) ∧ (n = 0x1#4 → v = 0#32) ∧ (n = 0x2#4 → v = s.base)
      ∧ (n = 0x3#4 → v = (match s.imgsel with | .bootstub => 0#32 | .application => 1#32))
      ∧ (n = 0x4#4 → v = s.len0) ∧ (n = 0x5#4 → v = s.len1) ∧ (n = 0x6#4 → v = s.status.word)
      ∧ (n = 0x7#4 → v.extractLsb' 0 8 = s.version.ver ∧ v.getLsbD 8 = s.version.valid ∧ v.extractLsb' 9 23 = 0#23)
      ∧ (n = 0x8#4 → v.extractLsb' 0 16 = s.chipId.id ∧ v.getLsbD 16 = s.chipId.valid ∧ v.extractLsb' 17 15 = 0#15)
      ∧ (n = 0x9#4 → v = s.page)
      ∧ (n = 0xA#4 → v.extractLsb' 0 8 = s.errInfo.byte ∧ v.getLsbD 8 = s.errInfo.byteValid
          ∧ v.extractLsb' 9 3 = s.errInfo.phase.code ∧ v.extractLsb' 12 4 = s.errInfo.step.code
          ∧ v.extractLsb' 16 1 = s.errInfo.img.code ∧ v.extractLsb' 17 15 = 0#15)
      ∧ (n = 0xB#4 → v = s.errPage) ∧ (n = 0xC#4 → v.toNat = min s.pcnt 0xFFFFFFFF)
      ∧ (BitVec.ule 0xD#4 n = true → v = 0#32)

/-- O16. Unless BUSY, a write of BASE, IMGSEL, LEN0 or LEN1 stores its value, in ERROR too; IMGSEL stores bit 0 only (R23,
R24, R25). -/
def Obligations.RegisterWritesStore : Prop :=
  ∀ (s u : State) (n : BitVec 4) (v : Word), s.turnNext u (.regWrite n v) → s.status.state ≠ .busy →
    (n = 0x2#4 → step s = .next { u with base := v })
      ∧ (n = 0x3#4 → step s = .next { u with imgsel := if v.getLsbD 0 then .application else .bootstub })
      ∧ (n = 0x4#4 → step s = .next { u with len0 := v })
      ∧ (n = 0x5#4 → step s = .next { u with len1 := v })

/-- O17. While BUSY, every write of CTRL (whatever op it names), BASE, IMGSEL, LEN0 and LEN1 and every image load is ignored
and sets OVR (R229). For a load with k at or above IMG_MAX_LEN this is the model's reading (log entry 11). -/
def Obligations.BusyIgnoresHostWrites : Prop :=
  ∀ (s u : State), s.status.state = .busy →
    (∀ (n : BitVec 4) (v : Word), n ∈ [0x0#4, 0x2#4, 0x3#4, 0x4#4, 0x5#4] → s.turnNext u (.regWrite n v) →
        step s = .next { u with status := { u.status with ovr := true } })
      ∧ (∀ (i : ImageSel) (k : Nat) (b : Byte), s.turnNext u (.imgLoad i k b) →
        step s = .next { u with status := { u.status with ovr := true } })

/-- O18. A CANCEL write sets the latch if bit 0 is 1 and the engine is BUSY, and does nothing else (R22, R230). -/
def Obligations.CancelWriteLatches : Prop :=
  ∀ (s u : State) (v : Word), s.turnNext u (.regWrite 0x1#4 v) →
    (v.getLsbD 0 = true → s.status.state = .busy →
        step s = .next { u with status := { u.status with cancelPend := true } })
      ∧ (v.getLsbD 0 = false ∨ s.status.state ≠ .busy → step s = .next u)

/-- O19. A write to a read-only register or a reserved index has no effect in any state, BUSY among them (R43, R44). -/
def Obligations.ReadOnlyWritesIgnored : Prop :=
  ∀ (s u : State) (n : BitVec 4) (v : Word), s.turnNext u (.regWrite n v) → BitVec.ule 0x6#4 n = true →
    step s = .next u

/-- O20. Unless BUSY, an image load stores its byte and leaves every other byte of both buffers; at or above IMG_MAX_LEN it
has no effect (R62). -/
def Obligations.ImageLoadStores : Prop :=
  ∀ (s u : State) (i : ImageSel) (k : Nat) (b : Byte), s.turnNext u (.imgLoad i k b) → s.status.state ≠ .busy →
    (k < s.params.imgMaxLen → ∃ t, step s = .next t ∧ t = { u with img0 := t.img0, img1 := t.img1 }
        ∧ Memory.read (t.image i) k = some b
        ∧ ∀ j n, (j ≠ i ∨ n ≠ k) → Memory.read (t.image j) n = Memory.read (s.image j) n)
      ∧ (s.params.imgMaxLen ≤ k → step s = .next u)

/-! ### The host ops -/

/-- O21. CONNECT, GET_VERSION, GET_ID and GLOBAL_ERASE, accepted in IDLE or DONE: BUSY at the start of the op's body, with
CUR_OP its code and STEP, PHASE and CANCEL_PEND cleared; nothing else changes (R220, R222 to R225). That the body's first
statement is a step of its own is the model's reading (log entry 7). -/
def Obligations.SimpleOpsAccepted : Prop :=
  ∀ (s : State) (ign : BitVec 28), s.accepts →
    exec (.opConnect ign) s = .next { s with
        status := { s.status with state := .busy, curOp := 0x1#4, step := .none, phase := .none, cancelPend := false }
        seq := { s.seq with pos := .call .connect } }
      ∧ exec (.opGetVersion ign) s = .next { s with
        status := { s.status with state := .busy, curOp := 0x2#4, step := .none, phase := .none, cancelPend := false }
        seq := { s.seq with pos := .call .getVersion } }
      ∧ exec (.opGetId ign) s = .next { s with
        status := { s.status with state := .busy, curOp := 0x3#4, step := .none, phase := .none, cancelPend := false }
        seq := { s.seq with pos := .call .getId } }
      ∧ exec (.opGlobalErase ign) s = .next { s with
        status := { s.status with state := .busy, curOp := 0x4#4, step := .none, phase := .none, cancelPend := false }
        seq := { s.seq with pos := .call .globalErase } }

/-- O22. PROGRAM_IMAGE, accepted in IDLE or DONE with arguments that pass: BUSY at the start of `program_image(SEL, BASE)`.
The check is written out: an empty image passes, and any other one if it is no longer than a buffer and its last page ends
at or below 0xFFFFFFFF (R220, R221, R226). That SEL and BASE are read here is the model's reading (log entry 26). -/
def Obligations.ProgramImageAccepted : Prop :=
  ∀ (s : State) (ign : BitVec 28), s.accepts →
    ((s.imageLen s.imgsel).toNat = 0
      ∨ ((s.imageLen s.imgsel).toNat ≤ s.params.imgMaxLen
        ∧ s.base.toNat + 256 * (((s.imageLen s.imgsel).toNat + 255) / 256) ≤ 0x100000000)) →
    exec (.opProgramImage ign) s = .next { s with
        status := { s.status with state := .busy, curOp := 0x5#4, step := .none, phase := .none, cancelPend := false }
        seq := { s.seq with pos := .image s.imgsel s.base } }

/-- O23. FLASH_RUN, accepted in IDLE or DONE with both images fitting from the two fixed addresses: BUSY at `connect()`. BASE
and IMGSEL are not read (R220, R221, R227; log entry 7). -/
def Obligations.FlashRunAccepted : Prop :=
  ∀ (s : State) (ign : BitVec 28), s.accepts →
    (s.len0.toNat = 0 ∨ (s.len0.toNat ≤ s.params.imgMaxLen
        ∧ 0x08000000 + 256 * ((s.len0.toNat + 255) / 256) ≤ 0x100000000)) →
    (s.len1.toNat = 0 ∨ (s.len1.toNat ≤ s.params.imgMaxLen
        ∧ 0x08020000 + 256 * ((s.len1.toNat + 255) / 256) ≤ 0x100000000)) →
    exec (.opFlashRun ign) s = .next { s with
        status := { s.status with state := .busy, curOp := 0x6#4, step := .none, phase := .none, cancelPend := false }
        seq := { s.seq with pos := .call .connect } }

/-- O24. An image that is too long or would run past 0xFFFFFFFF makes PROGRAM_IMAGE and FLASH_RUN raise BAD_REQUEST in the
acceptance step: ERROR with no transfer, never BUSY (R220, R221, R257, R258). -/
def Obligations.BadArgumentsRejected : Prop :=
  ∀ (s : State) (ign : BitVec 28), s.accepts →
    (0 < (s.imageLen s.imgsel).toNat →
      (s.params.imgMaxLen < (s.imageLen s.imgsel).toNat
        ∨ 0x100000000 < s.base.toNat + 256 * (((s.imageLen s.imgsel).toNat + 255) / 256)) →
      exec (.opProgramImage ign) s = .next { s with
        status := {
          s.status with
          state := .error, err := .badRequest, curOp := 0x5#4, step := .none, phase := .none, cancelPend := false }
        errInfo := ⟨0#8, false, .none, .none, s.status.curImg⟩
        errPage := s.page
        seq := { s.seq with pos := .error } })
      ∧ (s.params.imgMaxLen < s.len0.toNat ∨ s.params.imgMaxLen < s.len1.toNat
          ∨ (0 < s.len0.toNat ∧ 0x100000000 < 0x08000000 + 256 * ((s.len0.toNat + 255) / 256))
          ∨ (0 < s.len1.toNat ∧ 0x100000000 < 0x08020000 + 256 * ((s.len1.toNat + 255) / 256)) →
      exec (.opFlashRun ign) s = .next { s with
        status := {
          s.status with
          state := .error, err := .badRequest, curOp := 0x6#4, step := .none, phase := .none, cancelPend := false }
        errInfo := ⟨0#8, false, .none, .none, s.status.curImg⟩
        errPage := s.page
        seq := { s.seq with pos := .error } })

/-- O25. A reserved host op accepted in IDLE or DONE raises BAD_REQUEST in the acceptance step (R228, R258). -/
def Obligations.ReservedOpRejected : Prop :=
  ∀ (s : State) (op : BitVec 4) (ign : BitVec 28), s.accepts → (Instr.opReserved op ign).wf = true →
    exec (.opReserved op ign) s = .next { s with
        status := {
          s.status with
          state := .error, err := .badRequest, curOp := op, step := .none, phase := .none, cancelPend := false }
        errInfo := ⟨0#8, false, .none, .none, s.status.curImg⟩
        errPage := s.page
        seq := { s.seq with pos := .error } }

/-- O26. In ERROR every host op is ignored, and OVR is not set (R220, R260). -/
def Obligations.OpsIgnoredInError : Prop :=
  ∀ (s u : State) (v : Word), s.turnNext u (.regWrite 0x0#4 v) → s.status.state = .error → step s = .next u

/-! ### What the engine issues -/

/-- O27. SYNC: PHASE is HANDSHAKE and 0x5A is the one byte about to be sent; nothing else changes (R159). That this is the
meaning of the row is the model's choice (log entry 16). -/
def Obligations.SyncBeginsHandshake : Prop :=
  ∀ s : State, exec .sync s = .next { s with
    status := { s.status with phase := .handshake }
    seq := { s.seq with pos := .write .handshake 0x5A#8 [] } }

/-- O28. GET_VERSION, GET_ID and GLOBAL_ERASE begin: their STEP is shown, a result register of theirs is cleared, and the
SYNC round of `send_command` is about to begin with their blocks waiting; nothing else changes (R171, R191 to R193). That
this is the meaning of the rows is the model's choice (log entry 16). -/
def Obligations.CommandsBegin : Prop :=
  ∀ s : State,
    exec .getVersion s = .next { s with
        status := { s.status with step := .getVersion, phase := .sync }
        version := ⟨0#8, false⟩
        seq := { s.seq with cmd := .getVersion, blocks := [], pos := .write .sync 0x5A#8 [] } }
      ∧ exec .getId s = .next { s with
        status := { s.status with step := .getId, phase := .sync }
        chipId := ⟨0#16, false⟩
        seq := { s.seq with cmd := .getId, blocks := [], pos := .write .sync 0x5A#8 [] } }
      ∧ exec .globalErase s = .next { s with
        status := { s.status with step := .globalErase, phase := .sync }
        seq := { s.seq with cmd := .globalErase, blocks := [[0xFF#8, 0xFF#8, 0x00#8]], pos := .write .sync 0x5A#8 [] } }

/-- O29. WRITE_MEMORY begins whenever every byte of its page below the image's length was loaded: ADDR is the page's
address, the address block and a 258-byte payload block that holds the page wait, and the SYNC round is about to begin;
nothing else changes (R139, R194, R195; the row's meaning is log entry 16). -/
def Obligations.WriteMemoryBegins : Prop :=
  ∀ (s : State),
    (∀ j, j < 256 → 256 * s.page.toNat + j < (s.imageLen s.status.curImg).toNat →
      ∃ b, Memory.read (s.image s.status.curImg) (256 * s.page.toNat + j) = some b) →
    ∃ (d : List Byte) (a : Word), pageBytes (s.image s.status.curImg) (s.imageLen s.status.curImg).toNat s.page.toNat = some d
      ∧ d.length = 256 ∧ a = pageAddress s.seq.imgBase s.page.toNat
      ∧ exec .writeMemory s = .next { s with
        addr := a
        status := { s.status with phase := .sync }
        seq := {
          s.seq with
          cmd := .writeMemory
          blocks := [be32 a ++ [foldXor (be32 a)], 0xFF#8 :: d ++ [foldXor (0xFF#8 :: d)]]
          pos := .write .sync 0x5A#8 [] } }

/-- O30. WRITE_MEMORY stops with UNLOADED_IMAGE_BYTE exactly if a byte of its page below the image's length was not loaded,
and it is the only instruction that stops (R61, R195, U15). -/
def Obligations.OnlyUnloadedBytesStop : Prop :=
  ∀ (s : State) (i : Instr),
    ((∃ f, exec i s = .fault f) ↔ i = .writeMemory ∧ ∃ j, j < 256
        ∧ 256 * s.page.toNat + j < (s.imageLen s.status.curImg).toNat
        ∧ Memory.read (s.image s.status.curImg) (256 * s.page.toNat + j) = none)
      ∧ (∀ r, exec i s ≠ .refused r)

/-! ### The step runs the decoded instruction -/

/-- O31. A CTRL write runs the host op its word decodes to; the step around it only takes the write off the agenda (R21,
R92, R220). -/
def Obligations.StepRunsCtrlWord : Prop :=
  ∀ (s u : State) (v : Word), s.turnNext u (.regWrite 0x0#4 v) → step s = exec (decodeCtrl v) u

/-- O32. A byte the link answers with runs ACK if it decodes to ACK and NACK if it decodes to NACK; any other byte runs no
instruction, the other wire instructions' bytes among them: the step is the move that hands the byte to the position (R80,
R90, R151; that a received ACK or NACK is its row's instruction is log entry 16). -/
def Obligations.StepRunsControlByte : Prop :=
  ∀ (s u : State) (r : Request) (b : Byte), s.answerNext u r (.byte b) →
    (decodeWire [b] = .instr .ack [] → step s = exec .ack u)
      ∧ (decodeWire [b] = .instr .nack [] → step s = exec .nack u)
      ∧ (decodeWire [b] ≠ .instr .ack [] → decodeWire [b] ≠ .instr .nack [] →
          s.fetch = .moved (u.receive (.byte b)) ∧ step s = .next (u.receive (.byte b)))

/-- O33. At the start of a client operation, BUSY with no transfer outstanding, the engine's step runs the operation's wire
instruction: SYNC after `connect()` has set STEP, and the four commands as they are (R159, R190 to R194; that the rows have
these meanings is log entry 16). The last clause is FLASH_RUN's settle (R227, R235): GET_VERSION follows it, and that the
end of the wait and the start of GET_VERSION are one step without duration is the model's choice (log entry 8). -/
def Obligations.StepRunsClientCall : Prop :=
  ∀ (s u : State), s.engineNext u → s.status.state = .busy → s.inFlight = none →
    (s.seq.pos = .call .connect → step s = exec .sync { u with status := { u.status with step := .connect } })
      ∧ (s.seq.pos = .call .getVersion → step s = exec .getVersion u)
      ∧ (s.seq.pos = .call .getId → step s = exec .getId u)
      ∧ (s.seq.pos = .call .globalErase → step s = exec .globalErase u)
      ∧ (s.seq.pos = .call .writePage → step s = exec .writeMemory u)
      ∧ (s.seq.pos = .settle → step s = exec .getVersion u)

/-! ### Transfers and the ack wait -/

/-- O34. A poll answered with ACK resolves to true: HS is Acked, ACKRES Ack, the poll is counted, LASTRX holds 0x79, and the
echo comes next (R150 to R153, R156, R157). -/
def Obligations.AckResolvesPoll : Prop :=
  ∀ (s : State) (r : Request) (e : Element), s.inFlight = some r → s.seq.pos = .poll e →
    exec .ack s = .next { s with
      status := { s.status with hs := .acked }
      ackres := some .ack
      pcnt := s.pcnt + 1
      lastRx := ⟨0x79#8, true⟩
      seq := { s.seq with pos := .echo e }
      trace := s.trace ++ [⟨r, some (.byte 0x79#8)⟩]
      inFlight := none }

/-- O35. A poll answered with NACK resolves to false: HS is Nacked, ACKRES Nack, the poll is counted, LASTRX holds 0x1F, and
the echo comes next all the same (R150 to R153, R156, R157). -/
def Obligations.NackResolvesPoll : Prop :=
  ∀ (s : State) (r : Request) (e : Element), s.inFlight = some r → s.seq.pos = .poll e →
    exec .nack s = .next { s with
      status := { s.status with hs := .nacked }
      ackres := some .nack
      pcnt := s.pcnt + 1
      lastRx := ⟨0x1F#8, true⟩
      seq := { s.seq with pos := .echo e }
      trace := s.trace ++ [⟨r, some (.byte 0x1F#8)⟩]
      inFlight := none }

/-- O36. ACK and NACK on any other transfer are bytes like any other (R90, R112, R113): with no transfer outstanding they do
not reach the engine (R116); and every byte, 0x79 and 0x1F or not, is ignored during a Write that has more bytes to send and
is data during a response with more bytes to come. The first three clauses run ACK and NACK, the last two are the steps of
every byte. -/
def Obligations.ControlBytesElsewhere : Prop :=
  (∀ (s : State) (i : Instr) (b : Byte), (i = .ack ∧ b = 0x79#8) ∨ (i = .nack ∧ b = 0x1F#8) →
    (s.inFlight = none → exec i s = .next s)
      ∧ (∀ r e x y rest, s.inFlight = some r → s.seq.pos = .write e x (y :: rest) →
        exec i s = .next { s with
          seq := { s.seq with pos := .write e y rest }
          trace := s.trace ++ [⟨r, some (.byte b)⟩], inFlight := none })
      ∧ (∀ r n got, s.inFlight = some r → s.seq.pos = .read (n + 1) got →
        exec i s = .next { s with
          seq := { s.seq with pos := .read n (got ++ [b]) }
          trace := s.trace ++ [⟨r, some (.byte b)⟩], inFlight := none }))
    ∧ (∀ (s u : State) (r : Request) (b : Byte), s.answerNext u r (.byte b) →
      (∀ e x y rest, s.seq.pos = .write e x (y :: rest) →
        step s = .next { u with
          seq := { u.seq with pos := .write e y rest }
          trace := u.trace ++ [⟨r, some (.byte b)⟩], inFlight := none })
        ∧ (∀ n got, s.seq.pos = .read (n + 1) got →
        step s = .next { u with
          seq := { u.seq with pos := .read n (got ++ [b]) }
          trace := u.trace ++ [⟨r, some (.byte b)⟩], inFlight := none }))

/-- O37. Any other byte on a poll is discarded: LASTRX, PCNT (and POLLS, its view) change, the wait before the next poll
comes, and nothing else happens (R151). -/
def Obligations.OtherByteDiscarded : Prop :=
  ∀ (s u : State) (r : Request) (e : Element) (b : Byte), s.answerNext u r (.byte b) → s.seq.pos = .poll e →
    b ≠ 0x79#8 → b ≠ 0x1F#8 →
    step s = .next { u with
      pcnt := u.pcnt + 1
      lastRx := ⟨b, true⟩
      seq := { u.seq with pos := .pollWait e }
      trace := u.trace ++ [⟨r, some (.byte b)⟩]
      inFlight := none }

/-- O38. The start of a poll iteration: a pending cancel is consumed and raises CANCELLED; else a reached limit raises
LINK_TIMEOUT; else the poll is made, DUMMY_TX with `last` (R150, R154, R155, R258, R262). That the checks are made in the
step that would start the poll is the model's reading (log entry 6). -/
def Obligations.PollIterationOrder : Prop :=
  ∀ (s u : State) (e : Element), s.engineNext u → s.status.state = .busy → s.inFlight = none → s.seq.pos = .poll e →
    (s.status.cancelPend = true → step s = .next { u with
        status := { u.status with cancelPend := false, err := .cancelled, state := .error }
        errInfo := ⟨if u.lastRx.valid then u.lastRx.byte else 0#8, u.lastRx.valid, u.status.phase, u.status.step,
          u.status.curImg⟩
        errPage := u.page
        seq := { u.seq with pos := .error } })
      ∧ (s.status.cancelPend = false → pollBound s.params.ackPollLimit = some s.pcnt → step s = .next { u with
        status := { u.status with err := .linkTimeout, state := .error }
        errInfo := ⟨if u.lastRx.valid then u.lastRx.byte else 0#8, u.lastRx.valid, u.status.phase, u.status.step,
          u.status.curImg⟩
        errPage := u.page
        seq := { u.seq with pos := .error } })
      ∧ (s.status.cancelPend = false → pollBound s.params.ackPollLimit ≠ some s.pcnt →
        step s = .next { u with inFlight := some ⟨s.params.dummyTx, true⟩ })

/-- O39. What the engine sends at the other positions: the next byte of a Write, DUMMY_TX in a response Read, each with
`last` on the final byte only, and 0x79 as the echo, whatever the result was (R111 to R113, R152). -/
def Obligations.RequestsIssued : Prop :=
  ∀ (s u : State), s.engineNext u → s.status.state = .busy → s.inFlight = none →
    (∀ e b rest, s.seq.pos = .write e b rest →
        step s = .next { u with inFlight := some ⟨b, decide (rest = [])⟩ })
      ∧ (∀ n got, s.seq.pos = .read n got →
        step s = .next { u with inFlight := some ⟨s.params.dummyTx, decide (n = 0)⟩ })
      ∧ (∀ e, s.seq.pos = .echo e → step s = .next { u with inFlight := some ⟨0x79#8, true⟩ })

/-- O40. A transport error on any transfer: the request stays in the trace with `xerr`, TRANSPORT_ERROR is recorded with no
byte, and nothing else of the engine changes (R114, R255, R258). -/
def Obligations.TransportErrorRaised : Prop :=
  ∀ (s u : State) (r : Request), s.answerNext u r .xerr →
    step s = .next { u with
      status := { u.status with err := .transportError, state := .error }
      errInfo := ⟨0#8, false, u.status.phase, u.status.step, u.status.curImg⟩
      errPage := u.page
      seq := { u.seq with pos := .error }
      trace := u.trace ++ [⟨r, some .xerr⟩]
      inFlight := none }

/-- O41. A Write of any length, answered byte by byte with anything: every byte goes out once, in order, with `last` on the
final one only, the received bytes change nothing, and the ack wait of the element begins (R111, R112, R150, R156, R157). -/
def Obligations.WriteSendsItsBytes : Prop :=
  ∀ (s : State) (e : Element) (b : Byte) (rest xs : List Byte) (more : List Turn),
    s.status.state = .busy → s.inFlight = none → s.seq.pos = .write e b rest → xs.length = rest.length + 1 →
    s.agenda = transfersTurns xs ++ more →
    core.run (2 * xs.length) s = .next { s with
      status := { s.status with hs := .syncSent }
      pcnt := 0
      lastRx := { s.lastRx with valid := false }
      seq := { s.seq with pos := .poll e }
      trace := s.trace ++ callEntries (b :: rest) xs
      agenda := more }

/-- O42. An ack wait that resolves to ACK after any number of discarded bytes the limit allows: one poll per byte, then the
resolving poll, POLLS one more than the bytes discarded, and the echo still to come (R151, R157, R161). -/
def Obligations.AckWaitResolves : Prop :=
  ∀ (s : State) (e : Element) (ds : List Byte) (more : List Turn),
    s.status.state = .busy → s.inFlight = none → s.seq.pos = .poll e → s.status.cancelPend = false → s.pcnt = 0 →
    (∀ d ∈ ds, discarded d = true) → s.allowsPolls (ds.length + 1) →
    s.agenda = discardedTurns ds ++ transferTurns 0x79#8 ++ more →
    core.run (3 * ds.length + 2) s = .next { s with
      status := { s.status with hs := .acked }
      ackres := some .ack
      pcnt := ds.length + 1
      lastRx := ⟨0x79#8, true⟩
      seq := { s.seq with pos := .echo e }
      trace := s.trace ++ singleEntries s.params.dummyTx (ds ++ [0x79#8])
      agenda := more }

/-- O43. With a limit of n polls, an ack wait whose n polls all return other bytes raises LINK_TIMEOUT without a further
transfer and without an echo, and records the last byte (R154, R157, R161, R251). -/
def Obligations.AckWaitTimesOut : Prop :=
  ∀ (s : State) (e : Element) (ds : List Byte) (d : Byte) (more : List Turn),
    s.status.state = .busy → s.inFlight = none → s.seq.pos = .poll e → s.status.cancelPend = false → s.pcnt = 0 →
    (∀ x ∈ ds ++ [d], discarded x = true) → pollBound s.params.ackPollLimit = some (ds.length + 1) →
    s.agenda = discardedTurns (ds ++ [d]) ++ .engine :: more →
    core.run (3 * (ds.length + 1) + 1) s = .next { s with
      status := { s.status with err := .linkTimeout, state := .error }
      errInfo := ⟨d, true, s.status.phase, s.status.step, s.status.curImg⟩
      errPage := s.page
      pcnt := ds.length + 1
      lastRx := ⟨d, true⟩
      seq := { s.seq with pos := .error }
      trace := s.trace ++ singleEntries s.params.dummyTx (ds ++ [d])
      agenda := more }

/-- O44. With no limit and no cancel, an ack wait against a link that never answers ACK or NACK is still in progress after
any number of polls, and each poll was made (R160, R290). -/
def Obligations.UnboundedWaitNeverEnds : Prop :=
  ∀ (s : State) (e : Element) (ds : List Byte) (more : List Turn),
    s.status.state = .busy → s.inFlight = none → s.seq.pos = .poll e → s.status.cancelPend = false →
    s.params.ackPollLimit = .unbounded → (∀ d ∈ ds, discarded d = true) → s.agenda = discardedTurns ds ++ more →
    ∃ t, core.run (3 * ds.length) s = .next t ∧ t.status = s.status ∧ t.seq.pos = .poll e ∧ t.inFlight = none
      ∧ t.pcnt = s.pcnt + ds.length ∧ t.trace = s.trace ++ singleEntries s.params.dummyTx ds ∧ t.agenda = more

/-! ### The ends of the client operations -/

/-- O45. After its echo, an ack wait that resolved to NACK raises HANDSHAKE_FAILED in `connect()` and PROTOCOL_NACK at every
place in a command, with byte 0x1F (R176, R190, R252, R253, R258). -/
def Obligations.NackFailsTheOperation : Prop :=
  ∀ (s u : State) (r : Request) (e : Element) (b : Byte), s.answerNext u r (.byte b) → s.seq.pos = .echo e →
    s.ackres = some .nack →
    step s = .next { u with
      status := { u.status with err := (if e = .handshake then .handshakeFailed else .protocolNack), state := .error }
      errInfo := ⟨0x1F#8, true, u.status.phase, u.status.step, u.status.curImg⟩
      errPage := u.page
      seq := { u.seq with pos := .error }
      trace := u.trace ++ [⟨r, some (.byte b)⟩]
      inFlight := none }

/-- O46. The order inside `send_command`: after ACK to the SYNC the command frame, after ACK to the frame or a block the
next block, and with no block left the response Read if the command has one; PHASE names each (R172, R173, R175, R178). -/
def Obligations.CommandElementsInOrder : Prop :=
  ∀ (s u : State) (r : Request) (x : Byte), s.answerNext u r (.byte x) → s.ackres = some .ack →
    (s.seq.pos = .echo .sync → step s = .next { u with
        status := { u.status with phase := .cmd }
        seq := { u.seq with pos := .write .cmd u.seq.cmd.opcode [u.seq.cmd.opcode ^^^ 0xFF#8] }
        trace := u.trace ++ [⟨r, some (.byte x)⟩], inFlight := none })
      ∧ (∀ b bs rest, s.seq.pos = .echo .cmd → s.seq.blocks = (b :: bs) :: rest → step s = .next { u with
        status := { u.status with phase := .block0 }
        seq := { u.seq with pos := .write .block0 b bs, blocks := rest }
        trace := u.trace ++ [⟨r, some (.byte x)⟩], inFlight := none })
      ∧ (∀ b bs rest, s.seq.pos = .echo .block0 → s.seq.blocks = (b :: bs) :: rest → step s = .next { u with
        status := { u.status with phase := .block1 }
        seq := { u.seq with pos := .write .block1 b bs, blocks := rest }
        trace := u.trace ++ [⟨r, some (.byte x)⟩], inFlight := none })
      ∧ (∀ n, s.seq.pos = .echo .cmd → s.seq.blocks = [] → s.seq.cmd.responseLength = n + 1 → step s = .next { u with
        status := { u.status with phase := .resp }
        seq := { u.seq with pos := .read (n + 1) [] }
        trace := u.trace ++ [⟨r, some (.byte x)⟩], inFlight := none })

/-- O47. The last byte of a response: the first byte of the Read is dropped, the rest are RBUF, and the ack wait of the
response begins (R170, R175, R156, R157). -/
def Obligations.ResponseEnds : Prop :=
  ∀ (s u : State) (r : Request) (m : Byte) (got : List Byte) (b : Byte), s.answerNext u r (.byte b) →
    s.seq.pos = .read 0 (m :: got) →
    step s = .next { u with
      rbuf := got ++ [b]
      status := { u.status with hs := .syncSent }
      pcnt := 0
      lastRx := { u.lastRx with valid := false }
      seq := { u.seq with pos := .poll .resp }
      trace := u.trace ++ [⟨r, some (.byte b)⟩]
      inFlight := none }

/-- O48. Standalone ops end: CONNECT with CONNECTED = 1, GET_VERSION with VERSION and its event, GET_ID with CHIP_ID and its
event, GLOBAL_ERASE with its event; STATE is DONE in the same step. A GET_ID whose marker is not 1 raises
UNEXPECTED_RESPONSE in every op, FLASH_RUN among them: the run ends there, with no event and CHIP_ID as it was (R190 to R193, R231,
R232, R236, R254). -/
def Obligations.StandaloneOpsEnd : Prop :=
  ∀ (s u : State) (r : Request) (x : Byte), s.answerNext u r (.byte x) → s.ackres = some .ack →
    (s.status.curOp ≠ 0x6#4 → s.seq.pos = .echo .handshake → step s = .next { u with
        status := { u.status with connected := true, state := .done }
        seq := { u.seq with pos := .done }
        trace := u.trace ++ [⟨r, some (.byte x)⟩], inFlight := none })
      ∧ (∀ v, s.status.curOp ≠ 0x6#4 → s.seq.pos = .echo .resp → s.seq.cmd = .getVersion → s.rbuf = [v] →
        step s = .next { u with
        version := ⟨v, true⟩
        events := u.events ++ [.version v]
        status := { u.status with state := .done }
        seq := { u.seq with pos := .done }
        trace := u.trace ++ [⟨r, some (.byte x)⟩], inFlight := none })
      ∧ (∀ hi lo, s.status.curOp ≠ 0x6#4 → s.seq.pos = .echo .resp → s.seq.cmd = .getId → s.rbuf = [1#8, hi, lo] →
        step s = .next { u with
        chipId := ⟨chipIdOf hi lo, true⟩
        events := u.events ++ [.chipId (chipIdOf hi lo)]
        status := { u.status with state := .done }
        seq := { u.seq with pos := .done }
        trace := u.trace ++ [⟨r, some (.byte x)⟩], inFlight := none })
      ∧ (∀ m hi lo, s.seq.pos = .echo .resp → s.seq.cmd = .getId → s.rbuf = [m, hi, lo] → m ≠ 1#8 →
        step s = .next { u with
        status := { u.status with err := .unexpectedResponse, state := .error }
        errInfo := ⟨m, true, u.status.phase, u.status.step, u.status.curImg⟩
        errPage := u.page
        seq := { u.seq with pos := .error }
        trace := u.trace ++ [⟨r, some (.byte x)⟩], inFlight := none })
      ∧ (s.status.curOp ≠ 0x6#4 → s.seq.pos = .echo .block0 → s.seq.cmd = .globalErase → s.seq.blocks = [] →
        step s = .next { u with
        events := u.events ++ [.erased]
        status := { u.status with state := .done }
        seq := { u.seq with pos := .done }
        trace := u.trace ++ [⟨r, some (.byte x)⟩], inFlight := none })

/-- O49. A page whose payload block is acknowledged, in PROGRAM_IMAGE and in FLASH_RUN alike: PAGE counts it and PAGE_WRITTEN
is emitted with its index and address. If the image has another page, the step goes on with WRITE_MEMORY of it, which begins
at once if its bytes were loaded; after the last page PROGRAM_IMAGE is DONE, and FLASH_RUN goes on as FlashRunOrder says
(R195, R196, R227, R231, R232). That a page which cannot be built leaves the engine in front of it is the model's reading
(log entry 9). -/
def Obligations.PageAcknowledged : Prop :=
  ∀ (s u v : State) (r : Request) (x : Byte), s.answerNext u r (.byte x) → s.ackres = some .ack →
    s.seq.pos = .echo .block1 → s.seq.cmd = .writeMemory → s.seq.blocks = [] →
    v = { u with
      page := u.page + 1#32
      events := u.events ++ [.pageWritten u.status.curImg u.page (pageAddress u.seq.imgBase u.page.toNat)]
      trace := u.trace ++ [⟨r, some (.byte x)⟩], inFlight := none } →
    ((s.page + 1#32).toNat < npages (s.imageLen s.status.curImg).toNat → s.beginsPage v)
      ∧ (npages (s.imageLen s.status.curImg).toNat ≤ (s.page + 1#32).toNat → s.status.curOp ≠ 0x6#4 →
        step s = .next { v with
        status := { v.status with state := .done }, seq := { v.seq with pos := .done } })

/-- O50. `program_image(i, base)` begins: STEP, CUR_IMG and PAGE are set, and its first page begins, or PROGRAM_IMAGE is DONE
at once if the image is empty (R195, R226, R231). A page that cannot be built leaves the engine in front of it, which is
the model's reading (log entry 9). -/
def Obligations.ProgramImageBegins : Prop :=
  ∀ (s u v : State) (i : ImageSel) (base : Word), s.engineNext u → s.status.state = .busy → s.inFlight = none →
    s.seq.pos = .image i base → s.status.curOp ≠ 0x6#4 →
    v = { u with
      status := { u.status with step := .programImage, curImg := i }
      page := 0#32
      seq := { u.seq with imgBase := base } } →
    (s.imageLen i = 0#32 → step s = .next { v with
        status := { v.status with state := .done }, seq := { v.seq with pos := .done } })
      ∧ (s.imageLen i ≠ 0#32 →
        ((∃ t, exec .writeMemory v = .next t) → step s = exec .writeMemory v)
          ∧ ((∃ f, exec .writeMemory v = .fault f) → step s = .next { v with seq := { v.seq with pos := .call .writePage } }))

/-- O51. FLASH_RUN's fixed order, seen at each seam: connect, then the settle wait, then GET_VERSION, then GET_ID, then
GLOBAL_ERASE, then image 0 at 0x08000000, then image 1 at 0x08020000, then the close and DONE. An empty image is passed over,
and after the last page of an image its PAGE_WRITTEN comes first (R195, R227, R231, R232, R234, R235). That a page which
cannot be built leaves the engine in front of it is the model's reading (log entry 9). -/
def Obligations.FlashRunOrder : Prop :=
  ∀ (s u v : State) (r : Request) (x : Byte), s.answerNext u r (.byte x) → s.ackres = some .ack → s.status.curOp = 0x6#4 →
    v = { u with trace := u.trace ++ [⟨r, some (.byte x)⟩], inFlight := none } →
    (s.seq.pos = .echo .handshake → step s = .next { v with
        status := { v.status with connected := true, step := .settle }
        seq := { v.seq with pos := .settle } })
      ∧ (∀ b, s.seq.pos = .echo .resp → s.seq.cmd = .getVersion → s.rbuf = [b] →
        step s = exec .getId { v with version := ⟨b, true⟩, events := v.events ++ [.version b] })
      ∧ (∀ hi lo, s.seq.pos = .echo .resp → s.seq.cmd = .getId → s.rbuf = [1#8, hi, lo] →
        step s = exec .globalErase { v with
          chipId := ⟨chipIdOf hi lo, true⟩, events := v.events ++ [.chipId (chipIdOf hi lo)] })
      ∧ (∀ w0 w1, s.seq.pos = .echo .block0 → s.seq.cmd = .globalErase → s.seq.blocks = [] →
        w0 = { v with
          events := v.events ++ [.erased]
          page := 0#32
          status := { v.status with step := .programImage, curImg := .bootstub }
          seq := { v.seq with imgBase := 0x08000000#32 } } →
        w1 = { w0 with
          status := { w0.status with curImg := .application }
          seq := { w0.seq with imgBase := 0x08020000#32 } } →
        (s.len0 ≠ 0#32 → s.beginsPage w0)
          ∧ (s.len0 = 0#32 → s.len1 ≠ 0#32 → s.beginsPage w1)
          ∧ (s.len0 = 0#32 → s.len1 = 0#32 → s.closesLink w1))
      ∧ (∀ p w1, s.seq.pos = .echo .block1 → s.seq.cmd = .writeMemory → s.seq.blocks = [] →
        npages (s.imageLen s.status.curImg).toNat ≤ (s.page + 1#32).toNat →
        p = { v with
          page := v.page + 1#32
          events := v.events ++ [.pageWritten v.status.curImg v.page (pageAddress v.seq.imgBase v.page.toNat)] } →
        w1 = { p with
          page := 0#32
          status := { p.status with step := .programImage, curImg := .application }
          seq := { p.seq with imgBase := 0x08020000#32 } } →
        (s.status.curImg = .bootstub → s.len1 ≠ 0#32 → s.beginsPage w1)
          ∧ (s.status.curImg = .bootstub → s.len1 = 0#32 → s.closesLink w1)
          ∧ (s.status.curImg = .application → s.closesLink p))

/-! ### Whole runs of an op -/

/-- O52. GET_VERSION as a standalone op from IDLE or DONE, every ack wait answered at its first poll: 11 transfers with the
bytes of R170's example, VERSION the second byte of the response whatever the first is, its event, and DONE (R170, R191,
R197, R231). -/
def Obligations.GetVersionRun : Prop :=
  ∀ (s : State) (ign : BitVec 28) (x0 x1 x2 x3 x4 x5 m v : Byte) (more : List Turn), s.accepts → s.inFlight = none →
    s.agenda = .regWrite 0x0#4 (ctrlWord 0x2#4 ign) :: .engine ::
      transfersTurns [x0, 0x79#8, x1, x2, x3, 0x79#8, x4, m, v, 0x79#8, x5] ++ more →
    ∃ t, core.run 24 s = .next t ∧ t.agenda = more ∧ t.inFlight = none
      ∧ t.trace = s.trace ++ callEntries [0x5A#8] [x0] ++ singleEntries s.params.dummyTx [0x79#8]
        ++ singleEntries 0x79#8 [x1] ++ callEntries [0x01#8, 0xFE#8] [x2, x3]
        ++ singleEntries s.params.dummyTx [0x79#8] ++ singleEntries 0x79#8 [x4]
        ++ callEntries [s.params.dummyTx, s.params.dummyTx] [m, v] ++ singleEntries s.params.dummyTx [0x79#8]
        ++ singleEntries 0x79#8 [x5]
      ∧ t.version = ⟨v, true⟩ ∧ t.rbuf = [v] ∧ t.events = s.events ++ [.version v] ∧ t.polls = 1#32
      ∧ t.status = { s.status with
        state := .done, hs := .acked, cancelPend := false, curOp := 0x2#4, step := .getVersion, phase := .resp }
      ∧ t.chipId = s.chipId ∧ t.img0 = s.img0 ∧ t.img1 = s.img1 ∧ t.errInfo = s.errInfo ∧ t.page = s.page

/-- O53. GLOBAL_ERASE as a standalone op from IDLE or DONE, every ack wait answered at its first poll: the 12 transfers of
R193's example, the ERASED event, and DONE (R193, R197, R231). -/
def Obligations.GlobalEraseRun : Prop :=
  ∀ (s : State) (ign : BitVec 28) (x0 x1 x2 x3 x4 x5 x6 x7 x8 : Byte) (more : List Turn), s.accepts → s.inFlight = none →
    s.agenda = .regWrite 0x0#4 (ctrlWord 0x4#4 ign) :: .engine ::
      transfersTurns [x0, 0x79#8, x1, x2, x3, 0x79#8, x4, x5, x6, x7, 0x79#8, x8] ++ more →
    ∃ t, core.run 26 s = .next t ∧ t.agenda = more ∧ t.inFlight = none
      ∧ t.trace = s.trace ++ callEntries [0x5A#8] [x0] ++ singleEntries s.params.dummyTx [0x79#8]
        ++ singleEntries 0x79#8 [x1] ++ callEntries [0x44#8, 0xBB#8] [x2, x3]
        ++ singleEntries s.params.dummyTx [0x79#8] ++ singleEntries 0x79#8 [x4]
        ++ callEntries [0xFF#8, 0xFF#8, 0x00#8] [x5, x6, x7] ++ singleEntries s.params.dummyTx [0x79#8]
        ++ singleEntries 0x79#8 [x8]
      ∧ t.events = s.events ++ [.erased] ∧ t.polls = 1#32
      ∧ t.status = { s.status with
        state := .done, hs := .acked, cancelPend := false, curOp := 0x4#4, step := .globalErase, phase := .block0 }
      ∧ t.version = s.version ∧ t.chipId = s.chipId ∧ t.img0 = s.img0 ∧ t.img1 = s.img1

/-! ### The whole machine -/

/-- O54. Reset from any state: every piece of the engine's state takes its value of R51; an outstanding request stays in the
wire trace without a response, and nothing that was observed is lost (R51, R280, R281). What survives a reset besides the
trace, and the model's own fields, are log entry 1 and 2. -/
def Obligations.ResetTakesEverything : Prop :=
  ∀ (s u : State), s.turnNext u .reset → ∃ t, step s = .next t
    ∧ t.base = 0#32 ∧ t.imgsel = .bootstub ∧ t.len0 = 0#32 ∧ t.len1 = 0#32 ∧ t.status.word = 0#32
    ∧ t.version.word = 0#32 ∧ t.chipId.word = 0#32 ∧ t.page = 0#32 ∧ t.errInfo.word = 0#32 ∧ t.errPage = 0#32
    ∧ t.polls = 0#32 ∧ t.addr = 0#32 ∧ t.rbuf = [] ∧ t.lastRx = ⟨0#8, false⟩ ∧ t.pcnt = 0 ∧ t.ackres = none
    ∧ t.seq.pos = .idle ∧ t.inFlight = none ∧ (∀ i k, Memory.read (t.image i) k = none)
    ∧ t.wireTrace = s.wireTrace ∧ t.events = s.events ∧ t.closes = s.closes ∧ t.reads = s.reads
    ∧ t.params = s.params ∧ t.agenda = u.agenda

/-- O55. Every step keeps the invariant: clause by clause, the canonical form of the images, ERROR exactly with an error
code, the request of the position, the bounds on PAGE, POLLS and RBUF, HS and ACKRES, STEP, PHASE and ADDR, and the
arguments that were checked (R30, R32, R34, R36, R39, R45, R46, R50, R62, R111, R115, R140, R154, R178, R221, R229). -/
def Obligations.StepKeepsInv : Prop :=
  ∀ s t : State, s.Inv → step s = .next t → t.Inv

/-- O56. The reset state meets the invariant (R51). -/
def Obligations.ResetMeetsInv : Prop := State.reset.Inv

/-- O57. ERROR is left only by reset: any other step of a reachable ERROR state makes no transfer, emits nothing, and keeps
STATUS, ERR_INFO and ERR_PAGE (R260, R261, R270). -/
def Obligations.ErrorIsSticky : Prop :=
  ∀ s t : State, s.Inv → s.status.state = .error → (∀ rest, s.agenda ≠ .reset :: rest) → step s = .next t →
    t.status = s.status ∧ t.errInfo = s.errInfo ∧ t.errPage = s.errPage ∧ t.inFlight = none
      ∧ t.wireTrace = s.wireTrace ∧ t.events = s.events ∧ t.closes = s.closes

/-- O58. What is on the record stays on it: a step only adds to the wire trace, at most one completed entry, and to the event
list (R10, R71, R74), and changes no parameter (R6). That a reset step keeps the trace and the event list too is the
model's reading, not the spec's words (log entry 1). -/
def Obligations.RecordOnlyGrows : Prop :=
  ∀ s t : State, step s = .next t →
    (∃ es, t.trace = s.trace ++ es ∧ es.length ≤ 1) ∧ (∃ evs, t.events = s.events ++ evs) ∧ t.params = s.params

/-- O59. The latches: OVR is cleared only by reset, HS never returns to Idle but by reset, and a pending cancel goes away only
by reset, by the acceptance of a host op, or by the poll iteration that raises CANCELLED (R29, R31, R156). -/
def Obligations.LatchesHold : Prop :=
  ∀ s t : State, (∀ rest, s.agenda ≠ .reset :: rest) → step s = .next t →
    (s.status.ovr = true → t.status.ovr = true)
      ∧ (s.status.hs ≠ .idle → t.status.hs ≠ .idle)
      ∧ (s.status.cancelPend = true → t.status.cancelPend = false →
        (∃ v rest, s.agenda = .regWrite 0x0#4 v :: rest ∧ s.accepts)
          ∨ (∃ e, s.seq.pos = .poll e ∧ t.status.err = .cancelled))

/-- O60. While BUSY, no step but a reset changes BASE, IMGSEL, LEN0, LEN1 or an image byte, and with a transfer outstanding
the engine's own turn changes nothing (R62, R76, R110, R115, R229). -/
def Obligations.BusyFreezesArguments : Prop :=
  ∀ s t : State, s.status.state = .busy → (∀ rest, s.agenda ≠ .reset :: rest) → step s = .next t →
    (t.base = s.base ∧ t.imgsel = s.imgsel ∧ t.len0 = s.len0 ∧ t.len1 = s.len1 ∧ t.img0 = s.img0 ∧ t.img1 = s.img1)
      ∧ (∀ u, s.engineNext u → s.inFlight ≠ none → t = u)
end

