-- ==== Sys2Proof/Laws/Memory.lean ====
section
/-! SUPPORT. The laws of image memory: a read after a write, and the canonical form, which every operation keeps. -/

namespace Sys2Proof.Machine

@[simp] theorem Memory.read_write_same (m : Memory) (k : Nat) (x : Byte) :
    Memory.read (Memory.write m k x) k = some x := by
  induction m with
  | nil => simp [Memory.write, Memory.read]
  | cons c m ih =>
    obtain ⟨a, b⟩ := c
    unfold Memory.write
    split
    · simp [Memory.read]
    · split
      · simp [Memory.read]
      · rename_i h1 h2
        simp [Memory.read, h2, ih]

theorem Memory.read_write_other (m : Memory) (k j : Nat) (x : Byte) (h : j ≠ k) :
    Memory.read (Memory.write m k x) j = Memory.read m j := by
  induction m with
  | nil => simp [Memory.write, Memory.read, h]
  | cons c m ih =>
    obtain ⟨a, b⟩ := c
    unfold Memory.write
    split
    · simp [Memory.read, h]
    · split
      · rename_i h1 h2
        subst h2
        simp [Memory.read, h]
      · simp [Memory.read, ih]

theorem Memory.risingFrom_write (m : Memory) (lo k : Nat) (x : Byte) (hlo : lo ≤ k)
    (h : Memory.risingFrom lo m = true) : Memory.risingFrom lo (Memory.write m k x) = true := by
  induction m generalizing lo with
  | nil => simp [Memory.write, Memory.risingFrom, hlo]
  | cons c m ih =>
    obtain ⟨a, b⟩ := c
    simp only [Memory.risingFrom, Bool.and_eq_true, decide_eq_true_eq] at h
    unfold Memory.write
    split
    · simp only [Memory.risingFrom, Bool.and_eq_true, decide_eq_true_eq]
      exact ⟨hlo, by omega, h.2⟩
    · split
      · rename_i h1 h2
        subst h2
        simp [Memory.risingFrom, hlo, h.2]
      · simp only [Memory.risingFrom, Bool.and_eq_true, decide_eq_true_eq]
        exact ⟨h.1, ih _ (by omega) h.2⟩

/-- A load keeps the canonical form. -/
theorem Memory.wf_write (m : Memory) (k : Nat) (x : Byte) (h : Memory.wf m = true) :
    Memory.wf (Memory.write m k x) = true :=
  Memory.risingFrom_write m 0 k x (Nat.zero_le k) h

/-- The two buffers of the reset state are in canonical form. -/
theorem State.reset_images_wf : Memory.wf State.reset.img0 = true ∧ Memory.wf State.reset.img1 = true := by
  decide

/-- A byte load keeps the canonical form of both buffers. -/
theorem State.loadByte_images_wf (s : State) (i : ImageSel) (k : Nat) (b : Byte)
    (h0 : Memory.wf s.img0 = true) (h1 : Memory.wf s.img1 = true) :
    Memory.wf (s.loadByte i k b).img0 = true ∧ Memory.wf (s.loadByte i k b).img1 = true := by
  cases i
  · exact ⟨Memory.wf_write _ _ _ h0, h1⟩
  · exact ⟨h0, Memory.wf_write _ _ _ h1⟩

/-- What a byte load does to a read of any buffer. -/
theorem State.read_loadByte (s : State) (i j : ImageSel) (k n : Nat) (b : Byte) :
    Memory.read ((s.loadByte i k b).image j) n
      = if j = i ∧ n = k then some b else Memory.read (s.image j) n := by
  cases i <;> cases j <;> simp only [State.loadByte, State.image]
  all_goals
    by_cases h : n = k
    · subst h; simp
    · simp [h, Memory.read_write_other]

end Sys2Proof.Machine
end

