-- ==== Sys2Proof/Laws/Operands.lean ====
section
/-! SUPPORT. The laws of the codec and of the pages that later proofs cite: lengths, the fold over an append, and when a
payload block exists. -/

namespace Sys2Proof.Machine

theorem foldXor_append_single (bs : List Byte) (b : Byte) : foldXor (bs ++ [b]) = foldXor bs ^^^ b := by
  simp [foldXor, List.foldl_append]

@[simp] theorem checksummedBlock_length (bs : List Byte) : (checksummedBlock bs).length = bs.length + 1 := by
  simp [checksummedBlock]

@[simp] theorem be32_length (a : Word) : (be32 a).length = 4 := rfl

@[simp] theorem addressBlock_length (a : Word) : (addressBlock a).length = 5 := rfl

theorem paddedRun_length (m : Memory) (len n k : Nat) (d : List Byte) (h : paddedRun m len n k = some d) :
    d.length = n := by
  induction n generalizing k d with
  | zero => simp_all [paddedRun]
  | succ n ih =>
    simp only [paddedRun] at h
    split at h
    · next b bs hb hbs =>
      cases h
      simp [ih _ _ hbs]
    · cases h

theorem pageBytes_length (m : Memory) (len i : Nat) (d : List Byte) (h : pageBytes m len i = some d) :
    d.length = 256 :=
  paddedRun_length m len pageSize _ d h

/-- Everything `write_payload_block` can answer. -/
theorem writePayloadBlock_eq (d : List Byte) :
    writePayloadBlock d
      = if 1 ≤ d.length ∧ d.length ≤ 256 then
          some (checksummedBlock (BitVec.ofNat 8 (d.length - 1) :: d)) else none := rfl

/-- The payload block of a full page exists (R137, R139), so the refusal of U4 is never reached. -/
theorem writePayloadBlock_page (d : List Byte) (h : d.length = 256) :
    writePayloadBlock d = some (checksummedBlock (0xFF#8 :: d)) := by
  simp [writePayloadBlock, h]

end Sys2Proof.Machine
end

