-- ==== Sys2Proof/Laws/State.lean ====
section
/-! SUPPORT. One lemma per field per update: what each named update of State leaves in each field. -/

namespace Sys2Proof.Machine

/-! ### State.setPos -/

@[simp] theorem State.setPos_base (s : State) (p : Pos) :
    (s.setPos p).base = s.base := rfl
@[simp] theorem State.setPos_imgsel (s : State) (p : Pos) :
    (s.setPos p).imgsel = s.imgsel := rfl
@[simp] theorem State.setPos_len0 (s : State) (p : Pos) :
    (s.setPos p).len0 = s.len0 := rfl
@[simp] theorem State.setPos_len1 (s : State) (p : Pos) :
    (s.setPos p).len1 = s.len1 := rfl
@[simp] theorem State.setPos_status (s : State) (p : Pos) :
    (s.setPos p).status = s.status := rfl
@[simp] theorem State.setPos_version (s : State) (p : Pos) :
    (s.setPos p).version = s.version := rfl
@[simp] theorem State.setPos_chipId (s : State) (p : Pos) :
    (s.setPos p).chipId = s.chipId := rfl
@[simp] theorem State.setPos_page (s : State) (p : Pos) :
    (s.setPos p).page = s.page := rfl
@[simp] theorem State.setPos_errInfo (s : State) (p : Pos) :
    (s.setPos p).errInfo = s.errInfo := rfl
@[simp] theorem State.setPos_errPage (s : State) (p : Pos) :
    (s.setPos p).errPage = s.errPage := rfl
@[simp] theorem State.setPos_addr (s : State) (p : Pos) :
    (s.setPos p).addr = s.addr := rfl
@[simp] theorem State.setPos_rbuf (s : State) (p : Pos) :
    (s.setPos p).rbuf = s.rbuf := rfl
@[simp] theorem State.setPos_lastRx (s : State) (p : Pos) :
    (s.setPos p).lastRx = s.lastRx := rfl
@[simp] theorem State.setPos_pcnt (s : State) (p : Pos) :
    (s.setPos p).pcnt = s.pcnt := rfl
@[simp] theorem State.setPos_ackres (s : State) (p : Pos) :
    (s.setPos p).ackres = s.ackres := rfl
@[simp] theorem State.setPos_seq (s : State) (p : Pos) :
    (s.setPos p).seq = { s.seq with pos := p } := rfl
@[simp] theorem State.setPos_img0 (s : State) (p : Pos) :
    (s.setPos p).img0 = s.img0 := rfl
@[simp] theorem State.setPos_img1 (s : State) (p : Pos) :
    (s.setPos p).img1 = s.img1 := rfl
@[simp] theorem State.setPos_inFlight (s : State) (p : Pos) :
    (s.setPos p).inFlight = s.inFlight := rfl
@[simp] theorem State.setPos_trace (s : State) (p : Pos) :
    (s.setPos p).trace = s.trace := rfl
@[simp] theorem State.setPos_events (s : State) (p : Pos) :
    (s.setPos p).events = s.events := rfl
@[simp] theorem State.setPos_closes (s : State) (p : Pos) :
    (s.setPos p).closes = s.closes := rfl
@[simp] theorem State.setPos_reads (s : State) (p : Pos) :
    (s.setPos p).reads = s.reads := rfl
@[simp] theorem State.setPos_agenda (s : State) (p : Pos) :
    (s.setPos p).agenda = s.agenda := rfl
@[simp] theorem State.setPos_params (s : State) (p : Pos) :
    (s.setPos p).params = s.params := rfl

/-! ### State.setState -/

@[simp] theorem State.setState_base (s : State) (e : EngineState) :
    (s.setState e).base = s.base := rfl
@[simp] theorem State.setState_imgsel (s : State) (e : EngineState) :
    (s.setState e).imgsel = s.imgsel := rfl
@[simp] theorem State.setState_len0 (s : State) (e : EngineState) :
    (s.setState e).len0 = s.len0 := rfl
@[simp] theorem State.setState_len1 (s : State) (e : EngineState) :
    (s.setState e).len1 = s.len1 := rfl
@[simp] theorem State.setState_status (s : State) (e : EngineState) :
    (s.setState e).status = { s.status with state := e } := rfl
@[simp] theorem State.setState_version (s : State) (e : EngineState) :
    (s.setState e).version = s.version := rfl
@[simp] theorem State.setState_chipId (s : State) (e : EngineState) :
    (s.setState e).chipId = s.chipId := rfl
@[simp] theorem State.setState_page (s : State) (e : EngineState) :
    (s.setState e).page = s.page := rfl
@[simp] theorem State.setState_errInfo (s : State) (e : EngineState) :
    (s.setState e).errInfo = s.errInfo := rfl
@[simp] theorem State.setState_errPage (s : State) (e : EngineState) :
    (s.setState e).errPage = s.errPage := rfl
@[simp] theorem State.setState_addr (s : State) (e : EngineState) :
    (s.setState e).addr = s.addr := rfl
@[simp] theorem State.setState_rbuf (s : State) (e : EngineState) :
    (s.setState e).rbuf = s.rbuf := rfl
@[simp] theorem State.setState_lastRx (s : State) (e : EngineState) :
    (s.setState e).lastRx = s.lastRx := rfl
@[simp] theorem State.setState_pcnt (s : State) (e : EngineState) :
    (s.setState e).pcnt = s.pcnt := rfl
@[simp] theorem State.setState_ackres (s : State) (e : EngineState) :
    (s.setState e).ackres = s.ackres := rfl
@[simp] theorem State.setState_seq (s : State) (e : EngineState) :
    (s.setState e).seq = s.seq := rfl
@[simp] theorem State.setState_img0 (s : State) (e : EngineState) :
    (s.setState e).img0 = s.img0 := rfl
@[simp] theorem State.setState_img1 (s : State) (e : EngineState) :
    (s.setState e).img1 = s.img1 := rfl
@[simp] theorem State.setState_inFlight (s : State) (e : EngineState) :
    (s.setState e).inFlight = s.inFlight := rfl
@[simp] theorem State.setState_trace (s : State) (e : EngineState) :
    (s.setState e).trace = s.trace := rfl
@[simp] theorem State.setState_events (s : State) (e : EngineState) :
    (s.setState e).events = s.events := rfl
@[simp] theorem State.setState_closes (s : State) (e : EngineState) :
    (s.setState e).closes = s.closes := rfl
@[simp] theorem State.setState_reads (s : State) (e : EngineState) :
    (s.setState e).reads = s.reads := rfl
@[simp] theorem State.setState_agenda (s : State) (e : EngineState) :
    (s.setState e).agenda = s.agenda := rfl
@[simp] theorem State.setState_params (s : State) (e : EngineState) :
    (s.setState e).params = s.params := rfl

/-! ### State.setStep -/

@[simp] theorem State.setStep_base (s : State) (c : ClientStep) :
    (s.setStep c).base = s.base := rfl
@[simp] theorem State.setStep_imgsel (s : State) (c : ClientStep) :
    (s.setStep c).imgsel = s.imgsel := rfl
@[simp] theorem State.setStep_len0 (s : State) (c : ClientStep) :
    (s.setStep c).len0 = s.len0 := rfl
@[simp] theorem State.setStep_len1 (s : State) (c : ClientStep) :
    (s.setStep c).len1 = s.len1 := rfl
@[simp] theorem State.setStep_status (s : State) (c : ClientStep) :
    (s.setStep c).status = { s.status with step := c } := rfl
@[simp] theorem State.setStep_version (s : State) (c : ClientStep) :
    (s.setStep c).version = s.version := rfl
@[simp] theorem State.setStep_chipId (s : State) (c : ClientStep) :
    (s.setStep c).chipId = s.chipId := rfl
@[simp] theorem State.setStep_page (s : State) (c : ClientStep) :
    (s.setStep c).page = s.page := rfl
@[simp] theorem State.setStep_errInfo (s : State) (c : ClientStep) :
    (s.setStep c).errInfo = s.errInfo := rfl
@[simp] theorem State.setStep_errPage (s : State) (c : ClientStep) :
    (s.setStep c).errPage = s.errPage := rfl
@[simp] theorem State.setStep_addr (s : State) (c : ClientStep) :
    (s.setStep c).addr = s.addr := rfl
@[simp] theorem State.setStep_rbuf (s : State) (c : ClientStep) :
    (s.setStep c).rbuf = s.rbuf := rfl
@[simp] theorem State.setStep_lastRx (s : State) (c : ClientStep) :
    (s.setStep c).lastRx = s.lastRx := rfl
@[simp] theorem State.setStep_pcnt (s : State) (c : ClientStep) :
    (s.setStep c).pcnt = s.pcnt := rfl
@[simp] theorem State.setStep_ackres (s : State) (c : ClientStep) :
    (s.setStep c).ackres = s.ackres := rfl
@[simp] theorem State.setStep_seq (s : State) (c : ClientStep) :
    (s.setStep c).seq = s.seq := rfl
@[simp] theorem State.setStep_img0 (s : State) (c : ClientStep) :
    (s.setStep c).img0 = s.img0 := rfl
@[simp] theorem State.setStep_img1 (s : State) (c : ClientStep) :
    (s.setStep c).img1 = s.img1 := rfl
@[simp] theorem State.setStep_inFlight (s : State) (c : ClientStep) :
    (s.setStep c).inFlight = s.inFlight := rfl
@[simp] theorem State.setStep_trace (s : State) (c : ClientStep) :
    (s.setStep c).trace = s.trace := rfl
@[simp] theorem State.setStep_events (s : State) (c : ClientStep) :
    (s.setStep c).events = s.events := rfl
@[simp] theorem State.setStep_closes (s : State) (c : ClientStep) :
    (s.setStep c).closes = s.closes := rfl
@[simp] theorem State.setStep_reads (s : State) (c : ClientStep) :
    (s.setStep c).reads = s.reads := rfl
@[simp] theorem State.setStep_agenda (s : State) (c : ClientStep) :
    (s.setStep c).agenda = s.agenda := rfl
@[simp] theorem State.setStep_params (s : State) (c : ClientStep) :
    (s.setStep c).params = s.params := rfl

/-! ### State.setPhase -/

@[simp] theorem State.setPhase_base (s : State) (p : Phase) :
    (s.setPhase p).base = s.base := rfl
@[simp] theorem State.setPhase_imgsel (s : State) (p : Phase) :
    (s.setPhase p).imgsel = s.imgsel := rfl
@[simp] theorem State.setPhase_len0 (s : State) (p : Phase) :
    (s.setPhase p).len0 = s.len0 := rfl
@[simp] theorem State.setPhase_len1 (s : State) (p : Phase) :
    (s.setPhase p).len1 = s.len1 := rfl
@[simp] theorem State.setPhase_status (s : State) (p : Phase) :
    (s.setPhase p).status = { s.status with phase := p } := rfl
@[simp] theorem State.setPhase_version (s : State) (p : Phase) :
    (s.setPhase p).version = s.version := rfl
@[simp] theorem State.setPhase_chipId (s : State) (p : Phase) :
    (s.setPhase p).chipId = s.chipId := rfl
@[simp] theorem State.setPhase_page (s : State) (p : Phase) :
    (s.setPhase p).page = s.page := rfl
@[simp] theorem State.setPhase_errInfo (s : State) (p : Phase) :
    (s.setPhase p).errInfo = s.errInfo := rfl
@[simp] theorem State.setPhase_errPage (s : State) (p : Phase) :
    (s.setPhase p).errPage = s.errPage := rfl
@[simp] theorem State.setPhase_addr (s : State) (p : Phase) :
    (s.setPhase p).addr = s.addr := rfl
@[simp] theorem State.setPhase_rbuf (s : State) (p : Phase) :
    (s.setPhase p).rbuf = s.rbuf := rfl
@[simp] theorem State.setPhase_lastRx (s : State) (p : Phase) :
    (s.setPhase p).lastRx = s.lastRx := rfl
@[simp] theorem State.setPhase_pcnt (s : State) (p : Phase) :
    (s.setPhase p).pcnt = s.pcnt := rfl
@[simp] theorem State.setPhase_ackres (s : State) (p : Phase) :
    (s.setPhase p).ackres = s.ackres := rfl
@[simp] theorem State.setPhase_seq (s : State) (p : Phase) :
    (s.setPhase p).seq = s.seq := rfl
@[simp] theorem State.setPhase_img0 (s : State) (p : Phase) :
    (s.setPhase p).img0 = s.img0 := rfl
@[simp] theorem State.setPhase_img1 (s : State) (p : Phase) :
    (s.setPhase p).img1 = s.img1 := rfl
@[simp] theorem State.setPhase_inFlight (s : State) (p : Phase) :
    (s.setPhase p).inFlight = s.inFlight := rfl
@[simp] theorem State.setPhase_trace (s : State) (p : Phase) :
    (s.setPhase p).trace = s.trace := rfl
@[simp] theorem State.setPhase_events (s : State) (p : Phase) :
    (s.setPhase p).events = s.events := rfl
@[simp] theorem State.setPhase_closes (s : State) (p : Phase) :
    (s.setPhase p).closes = s.closes := rfl
@[simp] theorem State.setPhase_reads (s : State) (p : Phase) :
    (s.setPhase p).reads = s.reads := rfl
@[simp] theorem State.setPhase_agenda (s : State) (p : Phase) :
    (s.setPhase p).agenda = s.agenda := rfl
@[simp] theorem State.setPhase_params (s : State) (p : Phase) :
    (s.setPhase p).params = s.params := rfl

/-! ### State.setHs -/

@[simp] theorem State.setHs_base (s : State) (h : Handshake) :
    (s.setHs h).base = s.base := rfl
@[simp] theorem State.setHs_imgsel (s : State) (h : Handshake) :
    (s.setHs h).imgsel = s.imgsel := rfl
@[simp] theorem State.setHs_len0 (s : State) (h : Handshake) :
    (s.setHs h).len0 = s.len0 := rfl
@[simp] theorem State.setHs_len1 (s : State) (h : Handshake) :
    (s.setHs h).len1 = s.len1 := rfl
@[simp] theorem State.setHs_status (s : State) (h : Handshake) :
    (s.setHs h).status = { s.status with hs := h } := rfl
@[simp] theorem State.setHs_version (s : State) (h : Handshake) :
    (s.setHs h).version = s.version := rfl
@[simp] theorem State.setHs_chipId (s : State) (h : Handshake) :
    (s.setHs h).chipId = s.chipId := rfl
@[simp] theorem State.setHs_page (s : State) (h : Handshake) :
    (s.setHs h).page = s.page := rfl
@[simp] theorem State.setHs_errInfo (s : State) (h : Handshake) :
    (s.setHs h).errInfo = s.errInfo := rfl
@[simp] theorem State.setHs_errPage (s : State) (h : Handshake) :
    (s.setHs h).errPage = s.errPage := rfl
@[simp] theorem State.setHs_addr (s : State) (h : Handshake) :
    (s.setHs h).addr = s.addr := rfl
@[simp] theorem State.setHs_rbuf (s : State) (h : Handshake) :
    (s.setHs h).rbuf = s.rbuf := rfl
@[simp] theorem State.setHs_lastRx (s : State) (h : Handshake) :
    (s.setHs h).lastRx = s.lastRx := rfl
@[simp] theorem State.setHs_pcnt (s : State) (h : Handshake) :
    (s.setHs h).pcnt = s.pcnt := rfl
@[simp] theorem State.setHs_ackres (s : State) (h : Handshake) :
    (s.setHs h).ackres = s.ackres := rfl
@[simp] theorem State.setHs_seq (s : State) (h : Handshake) :
    (s.setHs h).seq = s.seq := rfl
@[simp] theorem State.setHs_img0 (s : State) (h : Handshake) :
    (s.setHs h).img0 = s.img0 := rfl
@[simp] theorem State.setHs_img1 (s : State) (h : Handshake) :
    (s.setHs h).img1 = s.img1 := rfl
@[simp] theorem State.setHs_inFlight (s : State) (h : Handshake) :
    (s.setHs h).inFlight = s.inFlight := rfl
@[simp] theorem State.setHs_trace (s : State) (h : Handshake) :
    (s.setHs h).trace = s.trace := rfl
@[simp] theorem State.setHs_events (s : State) (h : Handshake) :
    (s.setHs h).events = s.events := rfl
@[simp] theorem State.setHs_closes (s : State) (h : Handshake) :
    (s.setHs h).closes = s.closes := rfl
@[simp] theorem State.setHs_reads (s : State) (h : Handshake) :
    (s.setHs h).reads = s.reads := rfl
@[simp] theorem State.setHs_agenda (s : State) (h : Handshake) :
    (s.setHs h).agenda = s.agenda := rfl
@[simp] theorem State.setHs_params (s : State) (h : Handshake) :
    (s.setHs h).params = s.params := rfl

/-! ### State.setConnected -/

@[simp] theorem State.setConnected_base (s : State) (c : Bool) :
    (s.setConnected c).base = s.base := rfl
@[simp] theorem State.setConnected_imgsel (s : State) (c : Bool) :
    (s.setConnected c).imgsel = s.imgsel := rfl
@[simp] theorem State.setConnected_len0 (s : State) (c : Bool) :
    (s.setConnected c).len0 = s.len0 := rfl
@[simp] theorem State.setConnected_len1 (s : State) (c : Bool) :
    (s.setConnected c).len1 = s.len1 := rfl
@[simp] theorem State.setConnected_status (s : State) (c : Bool) :
    (s.setConnected c).status = { s.status with connected := c } := rfl
@[simp] theorem State.setConnected_version (s : State) (c : Bool) :
    (s.setConnected c).version = s.version := rfl
@[simp] theorem State.setConnected_chipId (s : State) (c : Bool) :
    (s.setConnected c).chipId = s.chipId := rfl
@[simp] theorem State.setConnected_page (s : State) (c : Bool) :
    (s.setConnected c).page = s.page := rfl
@[simp] theorem State.setConnected_errInfo (s : State) (c : Bool) :
    (s.setConnected c).errInfo = s.errInfo := rfl
@[simp] theorem State.setConnected_errPage (s : State) (c : Bool) :
    (s.setConnected c).errPage = s.errPage := rfl
@[simp] theorem State.setConnected_addr (s : State) (c : Bool) :
    (s.setConnected c).addr = s.addr := rfl
@[simp] theorem State.setConnected_rbuf (s : State) (c : Bool) :
    (s.setConnected c).rbuf = s.rbuf := rfl
@[simp] theorem State.setConnected_lastRx (s : State) (c : Bool) :
    (s.setConnected c).lastRx = s.lastRx := rfl
@[simp] theorem State.setConnected_pcnt (s : State) (c : Bool) :
    (s.setConnected c).pcnt = s.pcnt := rfl
@[simp] theorem State.setConnected_ackres (s : State) (c : Bool) :
    (s.setConnected c).ackres = s.ackres := rfl
@[simp] theorem State.setConnected_seq (s : State) (c : Bool) :
    (s.setConnected c).seq = s.seq := rfl
@[simp] theorem State.setConnected_img0 (s : State) (c : Bool) :
    (s.setConnected c).img0 = s.img0 := rfl
@[simp] theorem State.setConnected_img1 (s : State) (c : Bool) :
    (s.setConnected c).img1 = s.img1 := rfl
@[simp] theorem State.setConnected_inFlight (s : State) (c : Bool) :
    (s.setConnected c).inFlight = s.inFlight := rfl
@[simp] theorem State.setConnected_trace (s : State) (c : Bool) :
    (s.setConnected c).trace = s.trace := rfl
@[simp] theorem State.setConnected_events (s : State) (c : Bool) :
    (s.setConnected c).events = s.events := rfl
@[simp] theorem State.setConnected_closes (s : State) (c : Bool) :
    (s.setConnected c).closes = s.closes := rfl
@[simp] theorem State.setConnected_reads (s : State) (c : Bool) :
    (s.setConnected c).reads = s.reads := rfl
@[simp] theorem State.setConnected_agenda (s : State) (c : Bool) :
    (s.setConnected c).agenda = s.agenda := rfl
@[simp] theorem State.setConnected_params (s : State) (c : Bool) :
    (s.setConnected c).params = s.params := rfl

/-! ### State.setOvr -/

@[simp] theorem State.setOvr_base (s : State) :
    (s.setOvr).base = s.base := rfl
@[simp] theorem State.setOvr_imgsel (s : State) :
    (s.setOvr).imgsel = s.imgsel := rfl
@[simp] theorem State.setOvr_len0 (s : State) :
    (s.setOvr).len0 = s.len0 := rfl
@[simp] theorem State.setOvr_len1 (s : State) :
    (s.setOvr).len1 = s.len1 := rfl
@[simp] theorem State.setOvr_status (s : State) :
    (s.setOvr).status = { s.status with ovr := true } := rfl
@[simp] theorem State.setOvr_version (s : State) :
    (s.setOvr).version = s.version := rfl
@[simp] theorem State.setOvr_chipId (s : State) :
    (s.setOvr).chipId = s.chipId := rfl
@[simp] theorem State.setOvr_page (s : State) :
    (s.setOvr).page = s.page := rfl
@[simp] theorem State.setOvr_errInfo (s : State) :
    (s.setOvr).errInfo = s.errInfo := rfl
@[simp] theorem State.setOvr_errPage (s : State) :
    (s.setOvr).errPage = s.errPage := rfl
@[simp] theorem State.setOvr_addr (s : State) :
    (s.setOvr).addr = s.addr := rfl
@[simp] theorem State.setOvr_rbuf (s : State) :
    (s.setOvr).rbuf = s.rbuf := rfl
@[simp] theorem State.setOvr_lastRx (s : State) :
    (s.setOvr).lastRx = s.lastRx := rfl
@[simp] theorem State.setOvr_pcnt (s : State) :
    (s.setOvr).pcnt = s.pcnt := rfl
@[simp] theorem State.setOvr_ackres (s : State) :
    (s.setOvr).ackres = s.ackres := rfl
@[simp] theorem State.setOvr_seq (s : State) :
    (s.setOvr).seq = s.seq := rfl
@[simp] theorem State.setOvr_img0 (s : State) :
    (s.setOvr).img0 = s.img0 := rfl
@[simp] theorem State.setOvr_img1 (s : State) :
    (s.setOvr).img1 = s.img1 := rfl
@[simp] theorem State.setOvr_inFlight (s : State) :
    (s.setOvr).inFlight = s.inFlight := rfl
@[simp] theorem State.setOvr_trace (s : State) :
    (s.setOvr).trace = s.trace := rfl
@[simp] theorem State.setOvr_events (s : State) :
    (s.setOvr).events = s.events := rfl
@[simp] theorem State.setOvr_closes (s : State) :
    (s.setOvr).closes = s.closes := rfl
@[simp] theorem State.setOvr_reads (s : State) :
    (s.setOvr).reads = s.reads := rfl
@[simp] theorem State.setOvr_agenda (s : State) :
    (s.setOvr).agenda = s.agenda := rfl
@[simp] theorem State.setOvr_params (s : State) :
    (s.setOvr).params = s.params := rfl

/-! ### State.setCancel -/

@[simp] theorem State.setCancel_base (s : State) (c : Bool) :
    (s.setCancel c).base = s.base := rfl
@[simp] theorem State.setCancel_imgsel (s : State) (c : Bool) :
    (s.setCancel c).imgsel = s.imgsel := rfl
@[simp] theorem State.setCancel_len0 (s : State) (c : Bool) :
    (s.setCancel c).len0 = s.len0 := rfl
@[simp] theorem State.setCancel_len1 (s : State) (c : Bool) :
    (s.setCancel c).len1 = s.len1 := rfl
@[simp] theorem State.setCancel_status (s : State) (c : Bool) :
    (s.setCancel c).status = { s.status with cancelPend := c } := rfl
@[simp] theorem State.setCancel_version (s : State) (c : Bool) :
    (s.setCancel c).version = s.version := rfl
@[simp] theorem State.setCancel_chipId (s : State) (c : Bool) :
    (s.setCancel c).chipId = s.chipId := rfl
@[simp] theorem State.setCancel_page (s : State) (c : Bool) :
    (s.setCancel c).page = s.page := rfl
@[simp] theorem State.setCancel_errInfo (s : State) (c : Bool) :
    (s.setCancel c).errInfo = s.errInfo := rfl
@[simp] theorem State.setCancel_errPage (s : State) (c : Bool) :
    (s.setCancel c).errPage = s.errPage := rfl
@[simp] theorem State.setCancel_addr (s : State) (c : Bool) :
    (s.setCancel c).addr = s.addr := rfl
@[simp] theorem State.setCancel_rbuf (s : State) (c : Bool) :
    (s.setCancel c).rbuf = s.rbuf := rfl
@[simp] theorem State.setCancel_lastRx (s : State) (c : Bool) :
    (s.setCancel c).lastRx = s.lastRx := rfl
@[simp] theorem State.setCancel_pcnt (s : State) (c : Bool) :
    (s.setCancel c).pcnt = s.pcnt := rfl
@[simp] theorem State.setCancel_ackres (s : State) (c : Bool) :
    (s.setCancel c).ackres = s.ackres := rfl
@[simp] theorem State.setCancel_seq (s : State) (c : Bool) :
    (s.setCancel c).seq = s.seq := rfl
@[simp] theorem State.setCancel_img0 (s : State) (c : Bool) :
    (s.setCancel c).img0 = s.img0 := rfl
@[simp] theorem State.setCancel_img1 (s : State) (c : Bool) :
    (s.setCancel c).img1 = s.img1 := rfl
@[simp] theorem State.setCancel_inFlight (s : State) (c : Bool) :
    (s.setCancel c).inFlight = s.inFlight := rfl
@[simp] theorem State.setCancel_trace (s : State) (c : Bool) :
    (s.setCancel c).trace = s.trace := rfl
@[simp] theorem State.setCancel_events (s : State) (c : Bool) :
    (s.setCancel c).events = s.events := rfl
@[simp] theorem State.setCancel_closes (s : State) (c : Bool) :
    (s.setCancel c).closes = s.closes := rfl
@[simp] theorem State.setCancel_reads (s : State) (c : Bool) :
    (s.setCancel c).reads = s.reads := rfl
@[simp] theorem State.setCancel_agenda (s : State) (c : Bool) :
    (s.setCancel c).agenda = s.agenda := rfl
@[simp] theorem State.setCancel_params (s : State) (c : Bool) :
    (s.setCancel c).params = s.params := rfl

/-! ### State.emit -/

@[simp] theorem State.emit_base (s : State) (ev : Event) :
    (s.emit ev).base = s.base := rfl
@[simp] theorem State.emit_imgsel (s : State) (ev : Event) :
    (s.emit ev).imgsel = s.imgsel := rfl
@[simp] theorem State.emit_len0 (s : State) (ev : Event) :
    (s.emit ev).len0 = s.len0 := rfl
@[simp] theorem State.emit_len1 (s : State) (ev : Event) :
    (s.emit ev).len1 = s.len1 := rfl
@[simp] theorem State.emit_status (s : State) (ev : Event) :
    (s.emit ev).status = s.status := rfl
@[simp] theorem State.emit_version (s : State) (ev : Event) :
    (s.emit ev).version = s.version := rfl
@[simp] theorem State.emit_chipId (s : State) (ev : Event) :
    (s.emit ev).chipId = s.chipId := rfl
@[simp] theorem State.emit_page (s : State) (ev : Event) :
    (s.emit ev).page = s.page := rfl
@[simp] theorem State.emit_errInfo (s : State) (ev : Event) :
    (s.emit ev).errInfo = s.errInfo := rfl
@[simp] theorem State.emit_errPage (s : State) (ev : Event) :
    (s.emit ev).errPage = s.errPage := rfl
@[simp] theorem State.emit_addr (s : State) (ev : Event) :
    (s.emit ev).addr = s.addr := rfl
@[simp] theorem State.emit_rbuf (s : State) (ev : Event) :
    (s.emit ev).rbuf = s.rbuf := rfl
@[simp] theorem State.emit_lastRx (s : State) (ev : Event) :
    (s.emit ev).lastRx = s.lastRx := rfl
@[simp] theorem State.emit_pcnt (s : State) (ev : Event) :
    (s.emit ev).pcnt = s.pcnt := rfl
@[simp] theorem State.emit_ackres (s : State) (ev : Event) :
    (s.emit ev).ackres = s.ackres := rfl
@[simp] theorem State.emit_seq (s : State) (ev : Event) :
    (s.emit ev).seq = s.seq := rfl
@[simp] theorem State.emit_img0 (s : State) (ev : Event) :
    (s.emit ev).img0 = s.img0 := rfl
@[simp] theorem State.emit_img1 (s : State) (ev : Event) :
    (s.emit ev).img1 = s.img1 := rfl
@[simp] theorem State.emit_inFlight (s : State) (ev : Event) :
    (s.emit ev).inFlight = s.inFlight := rfl
@[simp] theorem State.emit_trace (s : State) (ev : Event) :
    (s.emit ev).trace = s.trace := rfl
@[simp] theorem State.emit_events (s : State) (ev : Event) :
    (s.emit ev).events = s.events ++ [ev] := rfl
@[simp] theorem State.emit_closes (s : State) (ev : Event) :
    (s.emit ev).closes = s.closes := rfl
@[simp] theorem State.emit_reads (s : State) (ev : Event) :
    (s.emit ev).reads = s.reads := rfl
@[simp] theorem State.emit_agenda (s : State) (ev : Event) :
    (s.emit ev).agenda = s.agenda := rfl
@[simp] theorem State.emit_params (s : State) (ev : Event) :
    (s.emit ev).params = s.params := rfl

/-! ### State.issue -/

@[simp] theorem State.issue_base (s : State) (tx : Byte) (last : Bool) :
    (s.issue tx last).base = s.base := rfl
@[simp] theorem State.issue_imgsel (s : State) (tx : Byte) (last : Bool) :
    (s.issue tx last).imgsel = s.imgsel := rfl
@[simp] theorem State.issue_len0 (s : State) (tx : Byte) (last : Bool) :
    (s.issue tx last).len0 = s.len0 := rfl
@[simp] theorem State.issue_len1 (s : State) (tx : Byte) (last : Bool) :
    (s.issue tx last).len1 = s.len1 := rfl
@[simp] theorem State.issue_status (s : State) (tx : Byte) (last : Bool) :
    (s.issue tx last).status = s.status := rfl
@[simp] theorem State.issue_version (s : State) (tx : Byte) (last : Bool) :
    (s.issue tx last).version = s.version := rfl
@[simp] theorem State.issue_chipId (s : State) (tx : Byte) (last : Bool) :
    (s.issue tx last).chipId = s.chipId := rfl
@[simp] theorem State.issue_page (s : State) (tx : Byte) (last : Bool) :
    (s.issue tx last).page = s.page := rfl
@[simp] theorem State.issue_errInfo (s : State) (tx : Byte) (last : Bool) :
    (s.issue tx last).errInfo = s.errInfo := rfl
@[simp] theorem State.issue_errPage (s : State) (tx : Byte) (last : Bool) :
    (s.issue tx last).errPage = s.errPage := rfl
@[simp] theorem State.issue_addr (s : State) (tx : Byte) (last : Bool) :
    (s.issue tx last).addr = s.addr := rfl
@[simp] theorem State.issue_rbuf (s : State) (tx : Byte) (last : Bool) :
    (s.issue tx last).rbuf = s.rbuf := rfl
@[simp] theorem State.issue_lastRx (s : State) (tx : Byte) (last : Bool) :
    (s.issue tx last).lastRx = s.lastRx := rfl
@[simp] theorem State.issue_pcnt (s : State) (tx : Byte) (last : Bool) :
    (s.issue tx last).pcnt = s.pcnt := rfl
@[simp] theorem State.issue_ackres (s : State) (tx : Byte) (last : Bool) :
    (s.issue tx last).ackres = s.ackres := rfl
@[simp] theorem State.issue_seq (s : State) (tx : Byte) (last : Bool) :
    (s.issue tx last).seq = s.seq := rfl
@[simp] theorem State.issue_img0 (s : State) (tx : Byte) (last : Bool) :
    (s.issue tx last).img0 = s.img0 := rfl
@[simp] theorem State.issue_img1 (s : State) (tx : Byte) (last : Bool) :
    (s.issue tx last).img1 = s.img1 := rfl
@[simp] theorem State.issue_inFlight (s : State) (tx : Byte) (last : Bool) :
    (s.issue tx last).inFlight = some ⟨tx, last⟩ := rfl
@[simp] theorem State.issue_trace (s : State) (tx : Byte) (last : Bool) :
    (s.issue tx last).trace = s.trace := rfl
@[simp] theorem State.issue_events (s : State) (tx : Byte) (last : Bool) :
    (s.issue tx last).events = s.events := rfl
@[simp] theorem State.issue_closes (s : State) (tx : Byte) (last : Bool) :
    (s.issue tx last).closes = s.closes := rfl
@[simp] theorem State.issue_reads (s : State) (tx : Byte) (last : Bool) :
    (s.issue tx last).reads = s.reads := rfl
@[simp] theorem State.issue_agenda (s : State) (tx : Byte) (last : Bool) :
    (s.issue tx last).agenda = s.agenda := rfl
@[simp] theorem State.issue_params (s : State) (tx : Byte) (last : Bool) :
    (s.issue tx last).params = s.params := rfl

/-! ### State.settleTransfer -/

@[simp] theorem State.settleTransfer_base (s : State) (r : Request) (a : Option LinkAnswer) :
    (s.settleTransfer r a).base = s.base := rfl
@[simp] theorem State.settleTransfer_imgsel (s : State) (r : Request) (a : Option LinkAnswer) :
    (s.settleTransfer r a).imgsel = s.imgsel := rfl
@[simp] theorem State.settleTransfer_len0 (s : State) (r : Request) (a : Option LinkAnswer) :
    (s.settleTransfer r a).len0 = s.len0 := rfl
@[simp] theorem State.settleTransfer_len1 (s : State) (r : Request) (a : Option LinkAnswer) :
    (s.settleTransfer r a).len1 = s.len1 := rfl
@[simp] theorem State.settleTransfer_status (s : State) (r : Request) (a : Option LinkAnswer) :
    (s.settleTransfer r a).status = s.status := rfl
@[simp] theorem State.settleTransfer_version (s : State) (r : Request) (a : Option LinkAnswer) :
    (s.settleTransfer r a).version = s.version := rfl
@[simp] theorem State.settleTransfer_chipId (s : State) (r : Request) (a : Option LinkAnswer) :
    (s.settleTransfer r a).chipId = s.chipId := rfl
@[simp] theorem State.settleTransfer_page (s : State) (r : Request) (a : Option LinkAnswer) :
    (s.settleTransfer r a).page = s.page := rfl
@[simp] theorem State.settleTransfer_errInfo (s : State) (r : Request) (a : Option LinkAnswer) :
    (s.settleTransfer r a).errInfo = s.errInfo := rfl
@[simp] theorem State.settleTransfer_errPage (s : State) (r : Request) (a : Option LinkAnswer) :
    (s.settleTransfer r a).errPage = s.errPage := rfl
@[simp] theorem State.settleTransfer_addr (s : State) (r : Request) (a : Option LinkAnswer) :
    (s.settleTransfer r a).addr = s.addr := rfl
@[simp] theorem State.settleTransfer_rbuf (s : State) (r : Request) (a : Option LinkAnswer) :
    (s.settleTransfer r a).rbuf = s.rbuf := rfl
@[simp] theorem State.settleTransfer_lastRx (s : State) (r : Request) (a : Option LinkAnswer) :
    (s.settleTransfer r a).lastRx = s.lastRx := rfl
@[simp] theorem State.settleTransfer_pcnt (s : State) (r : Request) (a : Option LinkAnswer) :
    (s.settleTransfer r a).pcnt = s.pcnt := rfl
@[simp] theorem State.settleTransfer_ackres (s : State) (r : Request) (a : Option LinkAnswer) :
    (s.settleTransfer r a).ackres = s.ackres := rfl
@[simp] theorem State.settleTransfer_seq (s : State) (r : Request) (a : Option LinkAnswer) :
    (s.settleTransfer r a).seq = s.seq := rfl
@[simp] theorem State.settleTransfer_img0 (s : State) (r : Request) (a : Option LinkAnswer) :
    (s.settleTransfer r a).img0 = s.img0 := rfl
@[simp] theorem State.settleTransfer_img1 (s : State) (r : Request) (a : Option LinkAnswer) :
    (s.settleTransfer r a).img1 = s.img1 := rfl
@[simp] theorem State.settleTransfer_inFlight (s : State) (r : Request) (a : Option LinkAnswer) :
    (s.settleTransfer r a).inFlight = none := rfl
@[simp] theorem State.settleTransfer_trace (s : State) (r : Request) (a : Option LinkAnswer) :
    (s.settleTransfer r a).trace = s.trace ++ [⟨r, a⟩] := rfl
@[simp] theorem State.settleTransfer_events (s : State) (r : Request) (a : Option LinkAnswer) :
    (s.settleTransfer r a).events = s.events := rfl
@[simp] theorem State.settleTransfer_closes (s : State) (r : Request) (a : Option LinkAnswer) :
    (s.settleTransfer r a).closes = s.closes := rfl
@[simp] theorem State.settleTransfer_reads (s : State) (r : Request) (a : Option LinkAnswer) :
    (s.settleTransfer r a).reads = s.reads := rfl
@[simp] theorem State.settleTransfer_agenda (s : State) (r : Request) (a : Option LinkAnswer) :
    (s.settleTransfer r a).agenda = s.agenda := rfl
@[simp] theorem State.settleTransfer_params (s : State) (r : Request) (a : Option LinkAnswer) :
    (s.settleTransfer r a).params = s.params := rfl

/-! ### State.raise -/

@[simp] theorem State.raise_base (s : State) (x : ErrCode) (b : Option Byte) :
    (s.raise x b).base = s.base := rfl
@[simp] theorem State.raise_imgsel (s : State) (x : ErrCode) (b : Option Byte) :
    (s.raise x b).imgsel = s.imgsel := rfl
@[simp] theorem State.raise_len0 (s : State) (x : ErrCode) (b : Option Byte) :
    (s.raise x b).len0 = s.len0 := rfl
@[simp] theorem State.raise_len1 (s : State) (x : ErrCode) (b : Option Byte) :
    (s.raise x b).len1 = s.len1 := rfl
@[simp] theorem State.raise_status (s : State) (x : ErrCode) (b : Option Byte) :
    (s.raise x b).status = { s.status with err := x, state := .error } := rfl
@[simp] theorem State.raise_version (s : State) (x : ErrCode) (b : Option Byte) :
    (s.raise x b).version = s.version := rfl
@[simp] theorem State.raise_chipId (s : State) (x : ErrCode) (b : Option Byte) :
    (s.raise x b).chipId = s.chipId := rfl
@[simp] theorem State.raise_page (s : State) (x : ErrCode) (b : Option Byte) :
    (s.raise x b).page = s.page := rfl
@[simp] theorem State.raise_errInfo (s : State) (x : ErrCode) (b : Option Byte) :
    (s.raise x b).errInfo = ⟨b.getD 0#8, b.isSome, s.status.phase, s.status.step, s.status.curImg⟩ := rfl
@[simp] theorem State.raise_errPage (s : State) (x : ErrCode) (b : Option Byte) :
    (s.raise x b).errPage = s.page := rfl
@[simp] theorem State.raise_addr (s : State) (x : ErrCode) (b : Option Byte) :
    (s.raise x b).addr = s.addr := rfl
@[simp] theorem State.raise_rbuf (s : State) (x : ErrCode) (b : Option Byte) :
    (s.raise x b).rbuf = s.rbuf := rfl
@[simp] theorem State.raise_lastRx (s : State) (x : ErrCode) (b : Option Byte) :
    (s.raise x b).lastRx = s.lastRx := rfl
@[simp] theorem State.raise_pcnt (s : State) (x : ErrCode) (b : Option Byte) :
    (s.raise x b).pcnt = s.pcnt := rfl
@[simp] theorem State.raise_ackres (s : State) (x : ErrCode) (b : Option Byte) :
    (s.raise x b).ackres = s.ackres := rfl
@[simp] theorem State.raise_seq (s : State) (x : ErrCode) (b : Option Byte) :
    (s.raise x b).seq = { s.seq with pos := .error } := rfl
@[simp] theorem State.raise_img0 (s : State) (x : ErrCode) (b : Option Byte) :
    (s.raise x b).img0 = s.img0 := rfl
@[simp] theorem State.raise_img1 (s : State) (x : ErrCode) (b : Option Byte) :
    (s.raise x b).img1 = s.img1 := rfl
@[simp] theorem State.raise_inFlight (s : State) (x : ErrCode) (b : Option Byte) :
    (s.raise x b).inFlight = s.inFlight := rfl
@[simp] theorem State.raise_trace (s : State) (x : ErrCode) (b : Option Byte) :
    (s.raise x b).trace = s.trace := rfl
@[simp] theorem State.raise_events (s : State) (x : ErrCode) (b : Option Byte) :
    (s.raise x b).events = s.events := rfl
@[simp] theorem State.raise_closes (s : State) (x : ErrCode) (b : Option Byte) :
    (s.raise x b).closes = s.closes := rfl
@[simp] theorem State.raise_reads (s : State) (x : ErrCode) (b : Option Byte) :
    (s.raise x b).reads = s.reads := rfl
@[simp] theorem State.raise_agenda (s : State) (x : ErrCode) (b : Option Byte) :
    (s.raise x b).agenda = s.agenda := rfl
@[simp] theorem State.raise_params (s : State) (x : ErrCode) (b : Option Byte) :
    (s.raise x b).params = s.params := rfl

/-! ### State.complete -/

@[simp] theorem State.complete_base (s : State) :
    (s.complete).base = s.base := rfl
@[simp] theorem State.complete_imgsel (s : State) :
    (s.complete).imgsel = s.imgsel := rfl
@[simp] theorem State.complete_len0 (s : State) :
    (s.complete).len0 = s.len0 := rfl
@[simp] theorem State.complete_len1 (s : State) :
    (s.complete).len1 = s.len1 := rfl
@[simp] theorem State.complete_status (s : State) :
    (s.complete).status = { s.status with state := .done } := rfl
@[simp] theorem State.complete_version (s : State) :
    (s.complete).version = s.version := rfl
@[simp] theorem State.complete_chipId (s : State) :
    (s.complete).chipId = s.chipId := rfl
@[simp] theorem State.complete_page (s : State) :
    (s.complete).page = s.page := rfl
@[simp] theorem State.complete_errInfo (s : State) :
    (s.complete).errInfo = s.errInfo := rfl
@[simp] theorem State.complete_errPage (s : State) :
    (s.complete).errPage = s.errPage := rfl
@[simp] theorem State.complete_addr (s : State) :
    (s.complete).addr = s.addr := rfl
@[simp] theorem State.complete_rbuf (s : State) :
    (s.complete).rbuf = s.rbuf := rfl
@[simp] theorem State.complete_lastRx (s : State) :
    (s.complete).lastRx = s.lastRx := rfl
@[simp] theorem State.complete_pcnt (s : State) :
    (s.complete).pcnt = s.pcnt := rfl
@[simp] theorem State.complete_ackres (s : State) :
    (s.complete).ackres = s.ackres := rfl
@[simp] theorem State.complete_seq (s : State) :
    (s.complete).seq = { s.seq with pos := .done } := rfl
@[simp] theorem State.complete_img0 (s : State) :
    (s.complete).img0 = s.img0 := rfl
@[simp] theorem State.complete_img1 (s : State) :
    (s.complete).img1 = s.img1 := rfl
@[simp] theorem State.complete_inFlight (s : State) :
    (s.complete).inFlight = s.inFlight := rfl
@[simp] theorem State.complete_trace (s : State) :
    (s.complete).trace = s.trace := rfl
@[simp] theorem State.complete_events (s : State) :
    (s.complete).events = s.events := rfl
@[simp] theorem State.complete_closes (s : State) :
    (s.complete).closes = s.closes := rfl
@[simp] theorem State.complete_reads (s : State) :
    (s.complete).reads = s.reads := rfl
@[simp] theorem State.complete_agenda (s : State) :
    (s.complete).agenda = s.agenda := rfl
@[simp] theorem State.complete_params (s : State) :
    (s.complete).params = s.params := rfl

/-! ### State.enterAckWait -/

@[simp] theorem State.enterAckWait_base (s : State) (e : Element) :
    (s.enterAckWait e).base = s.base := rfl
@[simp] theorem State.enterAckWait_imgsel (s : State) (e : Element) :
    (s.enterAckWait e).imgsel = s.imgsel := rfl
@[simp] theorem State.enterAckWait_len0 (s : State) (e : Element) :
    (s.enterAckWait e).len0 = s.len0 := rfl
@[simp] theorem State.enterAckWait_len1 (s : State) (e : Element) :
    (s.enterAckWait e).len1 = s.len1 := rfl
@[simp] theorem State.enterAckWait_status (s : State) (e : Element) :
    (s.enterAckWait e).status = { s.status with hs := .syncSent } := rfl
@[simp] theorem State.enterAckWait_version (s : State) (e : Element) :
    (s.enterAckWait e).version = s.version := rfl
@[simp] theorem State.enterAckWait_chipId (s : State) (e : Element) :
    (s.enterAckWait e).chipId = s.chipId := rfl
@[simp] theorem State.enterAckWait_page (s : State) (e : Element) :
    (s.enterAckWait e).page = s.page := rfl
@[simp] theorem State.enterAckWait_errInfo (s : State) (e : Element) :
    (s.enterAckWait e).errInfo = s.errInfo := rfl
@[simp] theorem State.enterAckWait_errPage (s : State) (e : Element) :
    (s.enterAckWait e).errPage = s.errPage := rfl
@[simp] theorem State.enterAckWait_addr (s : State) (e : Element) :
    (s.enterAckWait e).addr = s.addr := rfl
@[simp] theorem State.enterAckWait_rbuf (s : State) (e : Element) :
    (s.enterAckWait e).rbuf = s.rbuf := rfl
@[simp] theorem State.enterAckWait_lastRx (s : State) (e : Element) :
    (s.enterAckWait e).lastRx = { s.lastRx with valid := false } := rfl
@[simp] theorem State.enterAckWait_pcnt (s : State) (e : Element) :
    (s.enterAckWait e).pcnt = 0 := rfl
@[simp] theorem State.enterAckWait_ackres (s : State) (e : Element) :
    (s.enterAckWait e).ackres = s.ackres := rfl
@[simp] theorem State.enterAckWait_seq (s : State) (e : Element) :
    (s.enterAckWait e).seq = { s.seq with pos := .poll e } := rfl
@[simp] theorem State.enterAckWait_img0 (s : State) (e : Element) :
    (s.enterAckWait e).img0 = s.img0 := rfl
@[simp] theorem State.enterAckWait_img1 (s : State) (e : Element) :
    (s.enterAckWait e).img1 = s.img1 := rfl
@[simp] theorem State.enterAckWait_inFlight (s : State) (e : Element) :
    (s.enterAckWait e).inFlight = s.inFlight := rfl
@[simp] theorem State.enterAckWait_trace (s : State) (e : Element) :
    (s.enterAckWait e).trace = s.trace := rfl
@[simp] theorem State.enterAckWait_events (s : State) (e : Element) :
    (s.enterAckWait e).events = s.events := rfl
@[simp] theorem State.enterAckWait_closes (s : State) (e : Element) :
    (s.enterAckWait e).closes = s.closes := rfl
@[simp] theorem State.enterAckWait_reads (s : State) (e : Element) :
    (s.enterAckWait e).reads = s.reads := rfl
@[simp] theorem State.enterAckWait_agenda (s : State) (e : Element) :
    (s.enterAckWait e).agenda = s.agenda := rfl
@[simp] theorem State.enterAckWait_params (s : State) (e : Element) :
    (s.enterAckWait e).params = s.params := rfl

/-! ### State.countPoll -/

@[simp] theorem State.countPoll_base (s : State) (b : Byte) :
    (s.countPoll b).base = s.base := rfl
@[simp] theorem State.countPoll_imgsel (s : State) (b : Byte) :
    (s.countPoll b).imgsel = s.imgsel := rfl
@[simp] theorem State.countPoll_len0 (s : State) (b : Byte) :
    (s.countPoll b).len0 = s.len0 := rfl
@[simp] theorem State.countPoll_len1 (s : State) (b : Byte) :
    (s.countPoll b).len1 = s.len1 := rfl
@[simp] theorem State.countPoll_status (s : State) (b : Byte) :
    (s.countPoll b).status = s.status := rfl
@[simp] theorem State.countPoll_version (s : State) (b : Byte) :
    (s.countPoll b).version = s.version := rfl
@[simp] theorem State.countPoll_chipId (s : State) (b : Byte) :
    (s.countPoll b).chipId = s.chipId := rfl
@[simp] theorem State.countPoll_page (s : State) (b : Byte) :
    (s.countPoll b).page = s.page := rfl
@[simp] theorem State.countPoll_errInfo (s : State) (b : Byte) :
    (s.countPoll b).errInfo = s.errInfo := rfl
@[simp] theorem State.countPoll_errPage (s : State) (b : Byte) :
    (s.countPoll b).errPage = s.errPage := rfl
@[simp] theorem State.countPoll_addr (s : State) (b : Byte) :
    (s.countPoll b).addr = s.addr := rfl
@[simp] theorem State.countPoll_rbuf (s : State) (b : Byte) :
    (s.countPoll b).rbuf = s.rbuf := rfl
@[simp] theorem State.countPoll_lastRx (s : State) (b : Byte) :
    (s.countPoll b).lastRx = ⟨b, true⟩ := rfl
@[simp] theorem State.countPoll_pcnt (s : State) (b : Byte) :
    (s.countPoll b).pcnt = s.pcnt + 1 := rfl
@[simp] theorem State.countPoll_ackres (s : State) (b : Byte) :
    (s.countPoll b).ackres = s.ackres := rfl
@[simp] theorem State.countPoll_seq (s : State) (b : Byte) :
    (s.countPoll b).seq = s.seq := rfl
@[simp] theorem State.countPoll_img0 (s : State) (b : Byte) :
    (s.countPoll b).img0 = s.img0 := rfl
@[simp] theorem State.countPoll_img1 (s : State) (b : Byte) :
    (s.countPoll b).img1 = s.img1 := rfl
@[simp] theorem State.countPoll_inFlight (s : State) (b : Byte) :
    (s.countPoll b).inFlight = s.inFlight := rfl
@[simp] theorem State.countPoll_trace (s : State) (b : Byte) :
    (s.countPoll b).trace = s.trace := rfl
@[simp] theorem State.countPoll_events (s : State) (b : Byte) :
    (s.countPoll b).events = s.events := rfl
@[simp] theorem State.countPoll_closes (s : State) (b : Byte) :
    (s.countPoll b).closes = s.closes := rfl
@[simp] theorem State.countPoll_reads (s : State) (b : Byte) :
    (s.countPoll b).reads = s.reads := rfl
@[simp] theorem State.countPoll_agenda (s : State) (b : Byte) :
    (s.countPoll b).agenda = s.agenda := rfl
@[simp] theorem State.countPoll_params (s : State) (b : Byte) :
    (s.countPoll b).params = s.params := rfl

/-! ### State.acceptFields -/

@[simp] theorem State.acceptFields_base (s : State) (code : BitVec 4) :
    (s.acceptFields code).base = s.base := rfl
@[simp] theorem State.acceptFields_imgsel (s : State) (code : BitVec 4) :
    (s.acceptFields code).imgsel = s.imgsel := rfl
@[simp] theorem State.acceptFields_len0 (s : State) (code : BitVec 4) :
    (s.acceptFields code).len0 = s.len0 := rfl
@[simp] theorem State.acceptFields_len1 (s : State) (code : BitVec 4) :
    (s.acceptFields code).len1 = s.len1 := rfl
@[simp] theorem State.acceptFields_status (s : State) (code : BitVec 4) :
    (s.acceptFields code).status = { s.status with curOp := code, step := .none, phase := .none, cancelPend := false } := rfl
@[simp] theorem State.acceptFields_version (s : State) (code : BitVec 4) :
    (s.acceptFields code).version = s.version := rfl
@[simp] theorem State.acceptFields_chipId (s : State) (code : BitVec 4) :
    (s.acceptFields code).chipId = s.chipId := rfl
@[simp] theorem State.acceptFields_page (s : State) (code : BitVec 4) :
    (s.acceptFields code).page = s.page := rfl
@[simp] theorem State.acceptFields_errInfo (s : State) (code : BitVec 4) :
    (s.acceptFields code).errInfo = s.errInfo := rfl
@[simp] theorem State.acceptFields_errPage (s : State) (code : BitVec 4) :
    (s.acceptFields code).errPage = s.errPage := rfl
@[simp] theorem State.acceptFields_addr (s : State) (code : BitVec 4) :
    (s.acceptFields code).addr = s.addr := rfl
@[simp] theorem State.acceptFields_rbuf (s : State) (code : BitVec 4) :
    (s.acceptFields code).rbuf = s.rbuf := rfl
@[simp] theorem State.acceptFields_lastRx (s : State) (code : BitVec 4) :
    (s.acceptFields code).lastRx = s.lastRx := rfl
@[simp] theorem State.acceptFields_pcnt (s : State) (code : BitVec 4) :
    (s.acceptFields code).pcnt = s.pcnt := rfl
@[simp] theorem State.acceptFields_ackres (s : State) (code : BitVec 4) :
    (s.acceptFields code).ackres = s.ackres := rfl
@[simp] theorem State.acceptFields_seq (s : State) (code : BitVec 4) :
    (s.acceptFields code).seq = s.seq := rfl
@[simp] theorem State.acceptFields_img0 (s : State) (code : BitVec 4) :
    (s.acceptFields code).img0 = s.img0 := rfl
@[simp] theorem State.acceptFields_img1 (s : State) (code : BitVec 4) :
    (s.acceptFields code).img1 = s.img1 := rfl
@[simp] theorem State.acceptFields_inFlight (s : State) (code : BitVec 4) :
    (s.acceptFields code).inFlight = s.inFlight := rfl
@[simp] theorem State.acceptFields_trace (s : State) (code : BitVec 4) :
    (s.acceptFields code).trace = s.trace := rfl
@[simp] theorem State.acceptFields_events (s : State) (code : BitVec 4) :
    (s.acceptFields code).events = s.events := rfl
@[simp] theorem State.acceptFields_closes (s : State) (code : BitVec 4) :
    (s.acceptFields code).closes = s.closes := rfl
@[simp] theorem State.acceptFields_reads (s : State) (code : BitVec 4) :
    (s.acceptFields code).reads = s.reads := rfl
@[simp] theorem State.acceptFields_agenda (s : State) (code : BitVec 4) :
    (s.acceptFields code).agenda = s.agenda := rfl
@[simp] theorem State.acceptFields_params (s : State) (code : BitVec 4) :
    (s.acceptFields code).params = s.params := rfl

/-! ### State.openImage -/

@[simp] theorem State.openImage_base (s : State) (i : ImageSel) (b : Word) :
    (s.openImage i b).base = s.base := rfl
@[simp] theorem State.openImage_imgsel (s : State) (i : ImageSel) (b : Word) :
    (s.openImage i b).imgsel = s.imgsel := rfl
@[simp] theorem State.openImage_len0 (s : State) (i : ImageSel) (b : Word) :
    (s.openImage i b).len0 = s.len0 := rfl
@[simp] theorem State.openImage_len1 (s : State) (i : ImageSel) (b : Word) :
    (s.openImage i b).len1 = s.len1 := rfl
@[simp] theorem State.openImage_status (s : State) (i : ImageSel) (b : Word) :
    (s.openImage i b).status = { s.status with step := .programImage, curImg := i } := rfl
@[simp] theorem State.openImage_version (s : State) (i : ImageSel) (b : Word) :
    (s.openImage i b).version = s.version := rfl
@[simp] theorem State.openImage_chipId (s : State) (i : ImageSel) (b : Word) :
    (s.openImage i b).chipId = s.chipId := rfl
@[simp] theorem State.openImage_page (s : State) (i : ImageSel) (b : Word) :
    (s.openImage i b).page = 0#32 := rfl
@[simp] theorem State.openImage_errInfo (s : State) (i : ImageSel) (b : Word) :
    (s.openImage i b).errInfo = s.errInfo := rfl
@[simp] theorem State.openImage_errPage (s : State) (i : ImageSel) (b : Word) :
    (s.openImage i b).errPage = s.errPage := rfl
@[simp] theorem State.openImage_addr (s : State) (i : ImageSel) (b : Word) :
    (s.openImage i b).addr = s.addr := rfl
@[simp] theorem State.openImage_rbuf (s : State) (i : ImageSel) (b : Word) :
    (s.openImage i b).rbuf = s.rbuf := rfl
@[simp] theorem State.openImage_lastRx (s : State) (i : ImageSel) (b : Word) :
    (s.openImage i b).lastRx = s.lastRx := rfl
@[simp] theorem State.openImage_pcnt (s : State) (i : ImageSel) (b : Word) :
    (s.openImage i b).pcnt = s.pcnt := rfl
@[simp] theorem State.openImage_ackres (s : State) (i : ImageSel) (b : Word) :
    (s.openImage i b).ackres = s.ackres := rfl
@[simp] theorem State.openImage_seq (s : State) (i : ImageSel) (b : Word) :
    (s.openImage i b).seq = { s.seq with imgBase := b } := rfl
@[simp] theorem State.openImage_img0 (s : State) (i : ImageSel) (b : Word) :
    (s.openImage i b).img0 = s.img0 := rfl
@[simp] theorem State.openImage_img1 (s : State) (i : ImageSel) (b : Word) :
    (s.openImage i b).img1 = s.img1 := rfl
@[simp] theorem State.openImage_inFlight (s : State) (i : ImageSel) (b : Word) :
    (s.openImage i b).inFlight = s.inFlight := rfl
@[simp] theorem State.openImage_trace (s : State) (i : ImageSel) (b : Word) :
    (s.openImage i b).trace = s.trace := rfl
@[simp] theorem State.openImage_events (s : State) (i : ImageSel) (b : Word) :
    (s.openImage i b).events = s.events := rfl
@[simp] theorem State.openImage_closes (s : State) (i : ImageSel) (b : Word) :
    (s.openImage i b).closes = s.closes := rfl
@[simp] theorem State.openImage_reads (s : State) (i : ImageSel) (b : Word) :
    (s.openImage i b).reads = s.reads := rfl
@[simp] theorem State.openImage_agenda (s : State) (i : ImageSel) (b : Word) :
    (s.openImage i b).agenda = s.agenda := rfl
@[simp] theorem State.openImage_params (s : State) (i : ImageSel) (b : Word) :
    (s.openImage i b).params = s.params := rfl

/-! ### State.logRead -/

@[simp] theorem State.logRead_base (s : State) (n : BitVec 4) :
    (s.logRead n).base = s.base := rfl
@[simp] theorem State.logRead_imgsel (s : State) (n : BitVec 4) :
    (s.logRead n).imgsel = s.imgsel := rfl
@[simp] theorem State.logRead_len0 (s : State) (n : BitVec 4) :
    (s.logRead n).len0 = s.len0 := rfl
@[simp] theorem State.logRead_len1 (s : State) (n : BitVec 4) :
    (s.logRead n).len1 = s.len1 := rfl
@[simp] theorem State.logRead_status (s : State) (n : BitVec 4) :
    (s.logRead n).status = s.status := rfl
@[simp] theorem State.logRead_version (s : State) (n : BitVec 4) :
    (s.logRead n).version = s.version := rfl
@[simp] theorem State.logRead_chipId (s : State) (n : BitVec 4) :
    (s.logRead n).chipId = s.chipId := rfl
@[simp] theorem State.logRead_page (s : State) (n : BitVec 4) :
    (s.logRead n).page = s.page := rfl
@[simp] theorem State.logRead_errInfo (s : State) (n : BitVec 4) :
    (s.logRead n).errInfo = s.errInfo := rfl
@[simp] theorem State.logRead_errPage (s : State) (n : BitVec 4) :
    (s.logRead n).errPage = s.errPage := rfl
@[simp] theorem State.logRead_addr (s : State) (n : BitVec 4) :
    (s.logRead n).addr = s.addr := rfl
@[simp] theorem State.logRead_rbuf (s : State) (n : BitVec 4) :
    (s.logRead n).rbuf = s.rbuf := rfl
@[simp] theorem State.logRead_lastRx (s : State) (n : BitVec 4) :
    (s.logRead n).lastRx = s.lastRx := rfl
@[simp] theorem State.logRead_pcnt (s : State) (n : BitVec 4) :
    (s.logRead n).pcnt = s.pcnt := rfl
@[simp] theorem State.logRead_ackres (s : State) (n : BitVec 4) :
    (s.logRead n).ackres = s.ackres := rfl
@[simp] theorem State.logRead_seq (s : State) (n : BitVec 4) :
    (s.logRead n).seq = s.seq := rfl
@[simp] theorem State.logRead_img0 (s : State) (n : BitVec 4) :
    (s.logRead n).img0 = s.img0 := rfl
@[simp] theorem State.logRead_img1 (s : State) (n : BitVec 4) :
    (s.logRead n).img1 = s.img1 := rfl
@[simp] theorem State.logRead_inFlight (s : State) (n : BitVec 4) :
    (s.logRead n).inFlight = s.inFlight := rfl
@[simp] theorem State.logRead_trace (s : State) (n : BitVec 4) :
    (s.logRead n).trace = s.trace := rfl
@[simp] theorem State.logRead_events (s : State) (n : BitVec 4) :
    (s.logRead n).events = s.events := rfl
@[simp] theorem State.logRead_closes (s : State) (n : BitVec 4) :
    (s.logRead n).closes = s.closes := rfl
@[simp] theorem State.logRead_reads (s : State) (n : BitVec 4) :
    (s.logRead n).reads = s.reads ++ [⟨n, s.regRead n⟩] := rfl
@[simp] theorem State.logRead_agenda (s : State) (n : BitVec 4) :
    (s.logRead n).agenda = s.agenda := rfl
@[simp] theorem State.logRead_params (s : State) (n : BitVec 4) :
    (s.logRead n).params = s.params := rfl

/-! ### State.loadByte -/

@[simp] theorem State.loadByte_base (s : State) (i : ImageSel) (k : Nat) (b : Byte) :
    (s.loadByte i k b).base = s.base := by cases i <;> rfl
@[simp] theorem State.loadByte_imgsel (s : State) (i : ImageSel) (k : Nat) (b : Byte) :
    (s.loadByte i k b).imgsel = s.imgsel := by cases i <;> rfl
@[simp] theorem State.loadByte_len0 (s : State) (i : ImageSel) (k : Nat) (b : Byte) :
    (s.loadByte i k b).len0 = s.len0 := by cases i <;> rfl
@[simp] theorem State.loadByte_len1 (s : State) (i : ImageSel) (k : Nat) (b : Byte) :
    (s.loadByte i k b).len1 = s.len1 := by cases i <;> rfl
@[simp] theorem State.loadByte_status (s : State) (i : ImageSel) (k : Nat) (b : Byte) :
    (s.loadByte i k b).status = s.status := by cases i <;> rfl
@[simp] theorem State.loadByte_version (s : State) (i : ImageSel) (k : Nat) (b : Byte) :
    (s.loadByte i k b).version = s.version := by cases i <;> rfl
@[simp] theorem State.loadByte_chipId (s : State) (i : ImageSel) (k : Nat) (b : Byte) :
    (s.loadByte i k b).chipId = s.chipId := by cases i <;> rfl
@[simp] theorem State.loadByte_page (s : State) (i : ImageSel) (k : Nat) (b : Byte) :
    (s.loadByte i k b).page = s.page := by cases i <;> rfl
@[simp] theorem State.loadByte_errInfo (s : State) (i : ImageSel) (k : Nat) (b : Byte) :
    (s.loadByte i k b).errInfo = s.errInfo := by cases i <;> rfl
@[simp] theorem State.loadByte_errPage (s : State) (i : ImageSel) (k : Nat) (b : Byte) :
    (s.loadByte i k b).errPage = s.errPage := by cases i <;> rfl
@[simp] theorem State.loadByte_addr (s : State) (i : ImageSel) (k : Nat) (b : Byte) :
    (s.loadByte i k b).addr = s.addr := by cases i <;> rfl
@[simp] theorem State.loadByte_rbuf (s : State) (i : ImageSel) (k : Nat) (b : Byte) :
    (s.loadByte i k b).rbuf = s.rbuf := by cases i <;> rfl
@[simp] theorem State.loadByte_lastRx (s : State) (i : ImageSel) (k : Nat) (b : Byte) :
    (s.loadByte i k b).lastRx = s.lastRx := by cases i <;> rfl
@[simp] theorem State.loadByte_pcnt (s : State) (i : ImageSel) (k : Nat) (b : Byte) :
    (s.loadByte i k b).pcnt = s.pcnt := by cases i <;> rfl
@[simp] theorem State.loadByte_ackres (s : State) (i : ImageSel) (k : Nat) (b : Byte) :
    (s.loadByte i k b).ackres = s.ackres := by cases i <;> rfl
@[simp] theorem State.loadByte_seq (s : State) (i : ImageSel) (k : Nat) (b : Byte) :
    (s.loadByte i k b).seq = s.seq := by cases i <;> rfl
@[simp] theorem State.loadByte_inFlight (s : State) (i : ImageSel) (k : Nat) (b : Byte) :
    (s.loadByte i k b).inFlight = s.inFlight := by cases i <;> rfl
@[simp] theorem State.loadByte_trace (s : State) (i : ImageSel) (k : Nat) (b : Byte) :
    (s.loadByte i k b).trace = s.trace := by cases i <;> rfl
@[simp] theorem State.loadByte_events (s : State) (i : ImageSel) (k : Nat) (b : Byte) :
    (s.loadByte i k b).events = s.events := by cases i <;> rfl
@[simp] theorem State.loadByte_closes (s : State) (i : ImageSel) (k : Nat) (b : Byte) :
    (s.loadByte i k b).closes = s.closes := by cases i <;> rfl
@[simp] theorem State.loadByte_reads (s : State) (i : ImageSel) (k : Nat) (b : Byte) :
    (s.loadByte i k b).reads = s.reads := by cases i <;> rfl
@[simp] theorem State.loadByte_agenda (s : State) (i : ImageSel) (k : Nat) (b : Byte) :
    (s.loadByte i k b).agenda = s.agenda := by cases i <;> rfl
@[simp] theorem State.loadByte_params (s : State) (i : ImageSel) (k : Nat) (b : Byte) :
    (s.loadByte i k b).params = s.params := by cases i <;> rfl

end Sys2Proof.Machine
end

