-- ==== Sys2Proof/Laws/Ops.lean ====
section
/-! SUPPORT. For each shared operation one lemma that says everything it can do, so that later proofs need not unfold it. -/

namespace Sys2Proof.Machine

/-! ### WRITE_MEMORY and the page loop -/

/-- WRITE_MEMORY either begins its page with a 256-byte payload or meets a byte that was not loaded. -/
theorem execWriteMemory_cases (s : State) :
    (∃ d, pageBytes (s.image s.status.curImg) (s.imageLen s.status.curImg).toNat s.page.toNat = some d
        ∧ execWriteMemory s = .next (s.beginWriteBlocks (checksummedBlock (0xFF#8 :: d))))
      ∨ (pageBytes (s.image s.status.curImg) (s.imageLen s.status.curImg).toNat s.page.toNat = none
        ∧ execWriteMemory s = .fault .unloadedImageByte) := by
  cases h : pageBytes (s.image s.status.curImg) (s.imageLen s.status.curImg).toNat s.page.toNat with
  | none => exact .inr ⟨rfl, by simp [execWriteMemory, h]⟩
  | some d => exact .inl ⟨d, rfl, by simp [execWriteMemory, h, writePayloadBlock_page d (pageBytes_length _ _ _ _ h)]⟩

/-- The next page begins, or the engine stays in front of it. -/
theorem State.beginPage_cases (s : State) :
    (∃ d, pageBytes (s.image s.status.curImg) (s.imageLen s.status.curImg).toNat s.page.toNat = some d
        ∧ s.beginPage = s.beginWriteBlocks (checksummedBlock (0xFF#8 :: d)))
      ∨ (pageBytes (s.image s.status.curImg) (s.imageLen s.status.curImg).toNat s.page.toNat = none
        ∧ s.beginPage = s.setPos (.call .writePage)) := by
  rcases execWriteMemory_cases s with ⟨d, hd, h⟩ | ⟨hd, h⟩
  · exact .inl ⟨d, hd, by simp [State.beginPage, h]⟩
  · exact .inr ⟨hd, by simp [State.beginPage, h]⟩

/-! ### Beginning a write or a command -/

theorem State.beginWrite_cons (s : State) (e : Element) (b : Byte) (rest : List Byte) :
    s.beginWrite e (b :: rest) = (s.setPhase e.phase).setPos (.write e b rest) := rfl

theorem State.beginCommand_eq (s : State) (c : WireCmd) (blocks : List (List Byte)) :
    s.beginCommand c blocks
      = { s with
          status := { s.status with phase := .sync }
          seq := { s.seq with cmd := c, blocks := blocks, pos := .write .sync syncByte [] } } := rfl

theorem State.beginWriteBlocks_eq (s : State) (payload : List Byte) :
    s.beginWriteBlocks payload
      = { s with
          addr := pageAddress s.seq.imgBase s.page.toNat
          status := { s.status with phase := .sync }
          seq := {
            s.seq with
            cmd := .writeMemory
            blocks := [addressBlock (pageAddress s.seq.imgBase s.page.toNat), payload]
            pos := .write .sync syncByte [] } } := rfl

/-! ### The link -/

theorem State.receive_idle (s : State) (a : LinkAnswer) (h : s.inFlight = none) : s.receive a = s := by
  simp [State.receive, h]

theorem State.receive_xerr (s : State) (r : Request) (h : s.inFlight = some r) :
    s.receive .xerr = (s.settleTransfer r (some .xerr)).raise .transportError none := by
  simp [State.receive, h]

theorem State.receive_byte (s : State) (r : Request) (b : Byte) (h : s.inFlight = some r) :
    s.receive (.byte b) = (s.settleTransfer r (some (.byte b))).gotByte b := by
  simp [State.receive, h]

/-- Everything a poll's byte can do (R151). -/
theorem State.pollByte_cases (s : State) (e : Element) (b : Byte) :
    (b = ackByte ∧ s.pollByte e b = (s.countPoll b).resolve e .ack)
      ∨ (b = nackByte ∧ s.pollByte e b = (s.countPoll b).resolve e .nack)
      ∨ (b ≠ ackByte ∧ b ≠ nackByte ∧ s.pollByte e b = (s.countPoll b).setPos (.pollWait e)) := by
  unfold State.pollByte
  split
  · exact .inl ⟨‹_›, rfl⟩
  · split
    · exact .inr (.inl ⟨‹_›, rfl⟩)
    · exact .inr (.inr ⟨‹_›, ‹_›, rfl⟩)

/-- Everything the start of a poll iteration can do (R154, R155, R262). -/
theorem State.pollIteration_cases (s : State) :
    (s.status.cancelPend = true ∧ s.pollIteration = (s.setCancel false).raise .cancelled s.lastByte)
      ∨ (s.status.cancelPend = false ∧ s.limitReached = true ∧ s.pollIteration = s.raise .linkTimeout s.lastByte)
      ∨ (s.status.cancelPend = false ∧ s.limitReached = false
        ∧ s.pollIteration = s.issue s.params.dummyTx true) := by
  unfold State.pollIteration
  cases s.status.cancelPend <;> cases s.limitReached <;> simp

/-- What an ack wait's return does: the caller goes on after ACK and raises after NACK (R153, R176, R190). -/
theorem State.ackReturn_cases (s : State) (e : Element) :
    (s.ackres = some .ack ∧ s.ackReturn e = s.ackTrue e) ∨ (s.ackres ≠ some .ack ∧ s.ackReturn e = s.ackFalse e) := by
  unfold State.ackReturn
  split <;> simp_all

/-- Everything a CTRL write can do (R220). -/
theorem State.ctrlWrite_cases (s : State) (code : BitVec 4) (run : State → State) :
    (s.status.state = .busy ∧ s.ctrlWrite code run = s.setOvr)
      ∨ (s.status.state = .error ∧ s.ctrlWrite code run = s)
      ∨ ((s.status.state = .idle ∨ s.status.state = .done) ∧ s.ctrlWrite code run = run (s.acceptFields code)) := by
  unfold State.ctrlWrite
  cases s.status.state <;> simp

/-- Everything the end of the acceptance step can do (R220, R221). -/
theorem State.startOp_cases (s : State) (op : HostOp) :
    (op.checkArgs s = true ∧ s.startOp op = (s.setState .busy).setPos (op.body s))
      ∨ (op.checkArgs s = false ∧ s.startOp op = s.raise .badRequest none) := by
  unfold State.startOp
  cases op.checkArgs s <;> simp

/-! ### The step -/

theorem step_instr (s t : State) (i : Instr) (h : s.fetch = .instr i t) : step s = exec i t := by
  simp [step, h]

theorem step_moved (s t : State) (h : s.fetch = .moved t) : step s = .next t := by
  simp [step, h]

theorem State.fetch_cons (s : State) (t : Turn) (rest : List Turn) (h : s.agenda = t :: rest) :
    s.fetch = State.takeTurn { s with agenda := rest } t := by
  simp [State.fetch, h]

/-- The engine's move: nothing unless it is BUSY with no transfer outstanding (R46, R115). -/
theorem State.engineMove_cases (s : State) :
    (s.status.state = .busy ∧ s.inFlight = none ∧ s.engineMove = s.moveAt)
      ∨ ((s.status.state ≠ .busy ∨ s.inFlight ≠ none) ∧ s.engineMove = .moved s) := by
  unfold State.engineMove
  cases h : s.status.state <;> cases h' : s.inFlight <;> simp

/-- The link's answer is delivered whole, whether its byte is an instruction or not. -/
theorem State.deliver_cases (s : State) (a : LinkAnswer) :
    (a = .byte ackByte ∧ s.deliver a = .instr .ack s)
      ∨ (a = .byte nackByte ∧ s.deliver a = .instr .nack s)
      ∨ (a ≠ .byte ackByte ∧ a ≠ .byte nackByte ∧ s.deliver a = .moved (s.receive a)) := by
  cases a with
  | xerr => simp [State.deliver]
  | byte b =>
    by_cases h1 : b = ackByte
    · subst h1; simp [State.deliver, decodeRx]
    · by_cases h2 : b = nackByte
      · subst h2; simp [State.deliver, decodeRx, h1]
      · simp [State.deliver, decodeRx, h1, h2]

/-- Whatever the link answers, the step is `receive` of that answer. -/
theorem State.deliver_run (s u : State) (a : LinkAnswer) (hs : s.fetch = u.deliver a) :
    step s = .next (u.receive a) := by
  rcases State.deliver_cases u a with ⟨rfl, h⟩ | ⟨rfl, h⟩ | ⟨_, _, h⟩ <;>
    simp [step, hs, h, exec, execAck, execNack]

end Sys2Proof.Machine
end

