-- ==== Sys2Proof/Laws/PerInstr.lean ====
section
/-! SUPPORT. Per instruction: its encoding stands at the level of its row, has the row's width, and shows the row's fixed
bits (R80 to R82, R92 to R94). -/

namespace Sys2Proof.Laws.RowShape

/-- How many bits an encoding has. -/
def width : Encoded → Nat
  | .wire bs => 8 * bs.length
  | .ctrl _ => 32

/-- The bits that tell an encoding from the others of its level: the first byte on the wire, OP in a CTRL word. -/
def code : Encoded → Nat
  | .wire bs => (bs.headD 0#8).toNat
  | .ctrl v => (v.extractLsb' 0 4).toNat

/-- OP of a host op word is the code it was built from (R92). -/
theorem ctrlWord_op (op : BitVec 4) (ign : BitVec 28) : (ctrlWord op ign).extractLsb' 0 4 = op := by
  apply BitVec.eq_of_getLsbD_eq
  intro i hi
  have h4 : i < 32 := by omega
  simp [ctrlWord, fieldAt, hi, h4]

/-- The width and the fixed bits of each row, as spec/opcode_table.json lists them. -/
def Statement : Instr → Prop
  | .getVersion => width (encode .getVersion) = 16 ∧ code (encode .getVersion) = 0x01
  | .getId => width (encode .getId) = 16 ∧ code (encode .getId) = 0x02
  | .globalErase => width (encode .globalErase) = 16 ∧ code (encode .globalErase) = 0x44
  | .writeMemory => width (encode .writeMemory) = 16 ∧ code (encode .writeMemory) = 0x31
  | .sync => width (encode .sync) = 8 ∧ code (encode .sync) = 0x5A
  | .ack => width (encode .ack) = 8 ∧ code (encode .ack) = 0x79
  | .nack => width (encode .nack) = 8 ∧ code (encode .nack) = 0x1F
  | .opConnect ign => width (encode (.opConnect ign)) = 32 ∧ code (encode (.opConnect ign)) = 0x1
  | .opGetVersion ign => width (encode (.opGetVersion ign)) = 32 ∧ code (encode (.opGetVersion ign)) = 0x2
  | .opGetId ign => width (encode (.opGetId ign)) = 32 ∧ code (encode (.opGetId ign)) = 0x3
  | .opGlobalErase ign => width (encode (.opGlobalErase ign)) = 32 ∧ code (encode (.opGlobalErase ign)) = 0x4
  | .opProgramImage ign => width (encode (.opProgramImage ign)) = 32 ∧ code (encode (.opProgramImage ign)) = 0x5
  | .opFlashRun ign => width (encode (.opFlashRun ign)) = 32 ∧ code (encode (.opFlashRun ign)) = 0x6
  | .opReserved op ign => width (encode (.opReserved op ign)) = 32 ∧ code (encode (.opReserved op ign)) = op.toNat

theorem getVersion : Statement .getVersion := ⟨rfl, rfl⟩
theorem getId : Statement .getId := ⟨rfl, rfl⟩
theorem globalErase : Statement .globalErase := ⟨rfl, rfl⟩
theorem writeMemory : Statement .writeMemory := ⟨rfl, rfl⟩
theorem sync : Statement .sync := ⟨rfl, rfl⟩
theorem ack : Statement .ack := ⟨rfl, rfl⟩
theorem nack : Statement .nack := ⟨rfl, rfl⟩
theorem opConnect (ign : BitVec 28) : Statement (.opConnect ign) :=
  ⟨rfl, congrArg BitVec.toNat (ctrlWord_op _ ign)⟩
theorem opGetVersion (ign : BitVec 28) : Statement (.opGetVersion ign) :=
  ⟨rfl, congrArg BitVec.toNat (ctrlWord_op _ ign)⟩
theorem opGetId (ign : BitVec 28) : Statement (.opGetId ign) :=
  ⟨rfl, congrArg BitVec.toNat (ctrlWord_op _ ign)⟩
theorem opGlobalErase (ign : BitVec 28) : Statement (.opGlobalErase ign) :=
  ⟨rfl, congrArg BitVec.toNat (ctrlWord_op _ ign)⟩
theorem opProgramImage (ign : BitVec 28) : Statement (.opProgramImage ign) :=
  ⟨rfl, congrArg BitVec.toNat (ctrlWord_op _ ign)⟩
theorem opFlashRun (ign : BitVec 28) : Statement (.opFlashRun ign) :=
  ⟨rfl, congrArg BitVec.toNat (ctrlWord_op _ ign)⟩
theorem opReserved (op : BitVec 4) (ign : BitVec 28) : Statement (.opReserved op ign) :=
  ⟨rfl, congrArg BitVec.toNat (ctrlWord_op op ign)⟩

end Sys2Proof.Laws.RowShape
end

