-- ==== Sys2Proof/Laws/Step.lean ====
section
/-! SUPPORT. What a step can do, said once: `step_cases` for the whole machine, `State.moveAt_run` for the engine's own
move, `decodeCtrl_exec` for a CTRL write, and `Quiet` for what every operation of the sequencer leaves alone. -/

namespace Sys2Proof.Machine

/-- What a fetched move comes to. -/
def Fetched.run : Fetched → Host.Outcome State Fault Refusal
  | .instr i t => exec i t
  | .moved t => .next t

theorem step_run (s : State) : step s = s.fetch.run := by
  unfold step Fetched.run; rfl

/-- Everything a CTRL write can do, whatever op its word names (R220). -/
theorem decodeCtrl_exec (v : Word) (u t : State) (h : exec (decodeCtrl v) u = .next t) :
    (u.status.state = .busy ∧ t = u.setOvr) ∨ (u.status.state = .error ∧ t = u)
      ∨ ((u.status.state = .idle ∨ u.status.state = .done) ∧ ∃ code : BitVec 4,
          (∃ op : HostOp, code = op.code ∧ t = (u.acceptFields code).startOp op)
            ∨ t = (u.acceptFields code).raise .badRequest none) := by
  have key : ∀ (code : BitVec 4) (run : State → State), t = u.ctrlWrite code run →
      ((∃ op : HostOp, code = op.code ∧ ∀ w, run w = w.startOp op) ∨ ∀ w, run w = w.raise .badRequest none) →
      (u.status.state = .busy ∧ t = u.setOvr) ∨ (u.status.state = .error ∧ t = u)
      ∨ ((u.status.state = .idle ∨ u.status.state = .done) ∧ ∃ code : BitVec 4,
          (∃ op : HostOp, code = op.code ∧ t = (u.acceptFields code).startOp op)
            ∨ t = (u.acceptFields code).raise .badRequest none) := by
    intro code run ht hr
    rcases u.ctrlWrite_cases code run with ⟨hs, e⟩ | ⟨hs, e⟩ | ⟨hs, e⟩ <;> rw [e] at ht
    · exact .inl ⟨hs, ht⟩
    · exact .inr (.inl ⟨hs, ht⟩)
    · refine .inr (.inr ⟨hs, code, ?_⟩)
      rcases hr with ⟨op, ho, hr⟩ | hr
      · exact .inl ⟨op, ho, by rw [ht, hr]⟩
      · exact .inr (by rw [ht, hr])
  unfold decodeCtrl at h
  dsimp only at h
  split_ifs at h <;> cases h <;> first
    | exact key _ _ rfl (.inl ⟨.connect, rfl, fun _ => rfl⟩)
    | exact key _ _ rfl (.inl ⟨.getVersion, rfl, fun _ => rfl⟩)
    | exact key _ _ rfl (.inl ⟨.getId, rfl, fun _ => rfl⟩)
    | exact key _ _ rfl (.inl ⟨.globalErase, rfl, fun _ => rfl⟩)
    | exact key _ _ rfl (.inl ⟨.programImage, rfl, fun _ => rfl⟩)
    | exact key _ _ rfl (.inl ⟨.flashRun, rfl, fun _ => rfl⟩)
    | exact key _ _ rfl (.inr fun _ => rfl)

/-- Everything the engine's move at its position can end in, if it ends in a next state. -/
theorem State.moveAt_run (u t : State)
    (h : u.moveAt.run = .next t) :
    t = u ∨ (∃ tx last, t = u.issue tx last) ∨ (∃ e, u.seq.pos = .poll e ∧ t = u.pollIteration)
      ∨ (∃ e, u.seq.pos = .pollWait e ∧ t = u.setPos (.poll e))
      ∨ (∃ i base, u.seq.pos = .image i base ∧ t = u.beginImage i base)
      ∨ (u.seq.pos = .call .connect ∧ t = (u.setStep .connect).beginWrite .handshake [syncByte])
      ∨ ((u.seq.pos = .call .getVersion ∨ u.seq.pos = .settle) ∧ t = u.beginVersion)
      ∨ (u.seq.pos = .call .getId ∧ t = u.beginId) ∨ (u.seq.pos = .call .globalErase ∧ t = u.beginErase)
      ∨ (u.seq.pos = .call .writePage ∧ t = u.beginPage) := by
  cases hp : u.seq.pos <;> simp only [State.moveAt, hp, Fetched.run] at h
  case call c =>
    cases c <;> simp only [ClientCall.instr, State.beforeCall, exec, execSync, execGetVersion, execGetId, execGlobalErase] at h
    case writePage =>
      have : u.beginPage = t := by simp [State.beginPage, h]
      simp [this]
    all_goals (injection h with h; simp [h])
  case settle => simp only [exec, execGetVersion] at h; injection h with h; simp [h]
  all_goals injection h with h
  case write => exact .inr (.inl ⟨_, _, h.symm⟩)
  case read => exact .inr (.inl ⟨_, _, h.symm⟩)
  case echo => exact .inr (.inl ⟨_, _, h.symm⟩)
  case image i base => simp [h]
  case poll e => simp [h]
  case pollWait e => simp [h]
  all_goals simp [h]

/-- Everything a step can do, if it ends in a next state. `u` is the state with its turn taken off the agenda. -/
theorem step_cases (s t : State) (h : step s = .next t) : ∃ a, ∃ u, u = { s with agenda := a } ∧
    ((s.agenda = .reset :: a ∧ t = u.applyReset)
      ∨ (∃ n v, s.agenda = .regWrite n v :: a ∧ n ≠ 0x0#4 ∧ t = u.regWrite n v)
      ∨ (∃ v, s.agenda = .regWrite 0x0#4 v :: a ∧ exec (decodeCtrl v) u = .next t)
      ∨ (∃ n, s.agenda = .regRead n :: a ∧ t = u.logRead n)
      ∨ (∃ i k b, s.agenda = .imgLoad i k b :: a ∧ t = u.imgLoad i k b)
      ∨ (∃ x, t = u.receive x)
      ∨ ((s.status.state ≠ .busy ∨ s.inFlight ≠ none) ∧ t = u)
      ∨ (s.status.state = .busy ∧ s.inFlight = none ∧ u.moveAt.run = .next t)) := by
  have eng : ∀ u : State, u.engineMove.run = .next t →
     ((u.status.state ≠ .busy ∨ u.inFlight ≠ none) ∧ t = u)
      ∨ (u.status.state = .busy ∧ u.inFlight = none ∧ u.moveAt.run = .next t) := by
    intro u hu
    rcases u.engineMove_cases with ⟨hb, hn, e⟩ | ⟨hb, e⟩ <;> rw [e] at hu
    · exact .inr ⟨hb, hn, hu⟩
    · cases hu; exact .inl ⟨hb, rfl⟩
  cases hag : s.agenda with
  | nil =>
    rcases Option.eq_none_or_eq_some s.inFlight with hf | ⟨r, hf⟩
    rotate_left
    · have : s.fetch = s.deliver (Config.linkAnswer s.wireTrace) := by simp [State.fetch, hag, hf]
      rw [State.deliver_run _ _ _ this] at h
      cases h
      refine ⟨s.agenda, s, rfl, ?_⟩
      exact .inr (.inr (.inr (.inr (.inr (.inl ⟨_, rfl⟩)))))
    · have : s.fetch = s.engineMove := by simp [State.fetch, hag, hf]
      rw [step_run, this] at h
      refine ⟨s.agenda, s, rfl, ?_⟩
      rcases eng s h with h' | h'
      · exact .inr (.inr (.inr (.inr (.inr (.inr (.inl (by simpa [hf] using h')))))))
      · exact .inr (.inr (.inr (.inr (.inr (.inr (.inr (by simpa [hf] using h')))))))
  | cons tn rest =>
    have e := State.fetch_cons s tn rest hag
    refine ⟨rest, _, rfl, ?_⟩
    rw [step_run, e] at h
    cases tn <;> simp only [State.takeTurn] at h
    · rcases eng _ h with h' | h'
      · exact .inr (.inr (.inr (.inr (.inr (.inr (.inl h'))))))
      · exact .inr (.inr (.inr (.inr (.inr (.inr (.inr h'))))))
    · rename_i a
      have := State.deliver_run s _ a e
      rw [step_run, e] at this; simp only [State.takeTurn] at this; rw [this] at h
      cases h; exact .inr (.inr (.inr (.inr (.inr (.inl ⟨_, rfl⟩)))))
    · rename_i n v
      by_cases hn : n = 0x0#4
      · subst n; simp [State.hostWrite, Fetched.run] at h; simp [h]
      · simp [State.hostWrite, hn, Fetched.run] at h; simp [hn, h]
    · cases h; simp
    · cases h; simp
    · cases h; simp

/-- From `s` to `t` the arguments, the images, the parameters, the finished trace, OVR and CANCEL_PEND are unchanged, events
are only added, and HS does not return to Idle. -/
structure Quiet (s t : State) : Prop where
  args : t.base = s.base ∧ t.imgsel = s.imgsel ∧ t.len0 = s.len0 ∧ t.len1 = s.len1 ∧ t.img0 = s.img0 ∧ t.img1 = s.img1
  params : t.params = s.params
  trace : t.trace = s.trace
  events : ∃ es, t.events = s.events ++ es
  ovr : t.status.ovr = s.status.ovr
  cancel : t.status.cancelPend = s.status.cancelPend
  hs : s.status.hs ≠ .idle → t.status.hs ≠ .idle

theorem Quiet.same (s : State) : Quiet s s := ⟨by simp, rfl, rfl, ⟨[], by simp⟩, rfl, rfl, id⟩

theorem Quiet.trans {s t u : State} (h : Quiet s t) (k : Quiet t u) : Quiet s u := by
  obtain ⟨⟨a1,a2,a3,a4,a5,a6⟩,b,c,⟨es,d⟩,e,f,g⟩ := h
  obtain ⟨⟨a1',a2',a3',a4',a5',a6'⟩,b',c',⟨es',d'⟩,e',f',g'⟩ := k
  refine ⟨?_,?_,?_,⟨es ++ es', by rw [d', d, List.append_assoc]⟩,?_,?_,fun h => g' (g h)⟩ <;> simp_all
/-- A record update that touches none of the fields `Quiet` speaks of. -/
theorem Quiet.upd {s t : State}
  (a : t.base = s.base ∧ t.imgsel = s.imgsel ∧ t.len0 = s.len0 ∧ t.len1 = s.len1 ∧ t.img0 = s.img0 ∧ t.img1 = s.img1 := by
    exact ⟨rfl, rfl, rfl, rfl, rfl, rfl⟩)
  (b : t.params = s.params := by rfl) (c : t.trace = s.trace := by rfl) (d : t.events = s.events := by rfl)
  (e : t.status.ovr = s.status.ovr := by rfl) (f : t.status.cancelPend = s.status.cancelPend := by rfl)
  (g : s.status.hs ≠ .idle → t.status.hs ≠ .idle := by exact id) : Quiet s t :=
  ⟨a, b, c, ⟨[], by simp [d]⟩, e, f, g⟩

theorem Quiet.emit (s : State) (ev) : Quiet s (s.emit ev) := ⟨⟨rfl,rfl,rfl,rfl,rfl,rfl⟩, rfl, rfl, ⟨[ev], rfl⟩, rfl, rfl, id⟩

theorem State.raise_quiet (s : State) (e b) : Quiet s (s.raise e b) := Quiet.upd

theorem State.complete_quiet (s : State) : Quiet s s.complete := Quiet.upd

theorem State.enterAckWait_quiet (s : State) (e) : Quiet s (s.enterAckWait e) := Quiet.upd (g := by intro _; simp [State.enterAckWait, State.setHs])

theorem State.beginWrite_quiet (s : State) (e bs) : Quiet s (s.beginWrite e bs) := by
  cases bs
  · exact (Quiet.upd (t := s.setPhase e.phase)).trans (State.enterAckWait_quiet _ _)
  · exact Quiet.upd

theorem State.closeLink_quiet (s : State) : Quiet s s.closeLink := (Quiet.trans Quiet.upd (Quiet.emit _ _)).trans (State.complete_quiet _)

theorem State.beginCommand_quiet (s : State) (c bl) : Quiet s (s.beginCommand c bl) := Quiet.trans Quiet.upd (State.beginWrite_quiet _ _ _)

theorem State.beginPage_quiet (s : State) : Quiet s s.beginPage := by
  rcases s.beginPage_cases with ⟨d, _, e⟩ | ⟨_, e⟩ <;> rw [e]
  · exact Quiet.trans Quiet.upd (State.beginCommand_quiet _ _ _)
  · exact Quiet.upd

theorem State.openImage_quiet (s : State) (i b) : Quiet s (s.openImage i b) := Quiet.upd

theorem State.beginApplication_quiet (s : State) : Quiet s s.beginApplication := by
  unfold State.beginApplication; dsimp only; split
  · exact (State.openImage_quiet _ _ _).trans (State.beginPage_quiet _)
  · exact (State.openImage_quiet _ _ _).trans (State.closeLink_quiet _)

theorem State.imageDone_quiet (s : State) : Quiet s s.imageDone := by
  unfold State.imageDone; split
  · split
    · exact State.beginApplication_quiet _
    · exact State.closeLink_quiet _
  · exact State.complete_quiet _

theorem State.nextPage_quiet (s : State) : Quiet s s.nextPage := by
  unfold State.nextPage; split
  · exact State.beginPage_quiet _
  · exact State.imageDone_quiet _

theorem State.beginImage_quiet (s : State) (i b) : Quiet s (s.beginImage i b) := (State.openImage_quiet _ _ _).trans (State.nextPage_quiet _)

theorem State.beginVersion_quiet (s : State) : Quiet s s.beginVersion := Quiet.trans Quiet.upd (State.beginCommand_quiet _ _ _)

theorem State.beginId_quiet (s : State) : Quiet s s.beginId := Quiet.trans Quiet.upd (State.beginCommand_quiet _ _ _)

theorem State.beginErase_quiet (s : State) : Quiet s s.beginErase := Quiet.trans Quiet.upd (State.beginCommand_quiet _ _ _)

theorem State.commandDone_quiet (s : State) : Quiet s s.commandDone := by
  unfold State.commandDone; split
  · unfold State.versionDone; dsimp only
    split
    · exact (Quiet.trans Quiet.upd (Quiet.emit _ _)).trans (State.beginId_quiet _)
    · exact (Quiet.trans Quiet.upd (Quiet.emit _ _)).trans (State.complete_quiet _)
  · unfold State.idDone; dsimp only
    split
    · split
      · exact (Quiet.trans Quiet.upd (Quiet.emit _ _)).trans (State.beginErase_quiet _)
      · exact (Quiet.trans Quiet.upd (Quiet.emit _ _)).trans (State.complete_quiet _)
    · exact State.raise_quiet _ _ _
  · unfold State.eraseDone; dsimp only
    split
    · exact (Quiet.emit _ _).trans (State.beginImage_quiet _ _ _)
    · exact (Quiet.emit _ _).trans (State.complete_quiet _)
  · exact (Quiet.trans Quiet.upd (Quiet.emit _ _)).trans (State.nextPage_quiet _)

theorem State.afterBlock_quiet (s : State) (e) : Quiet s (s.afterBlock e) := by
  unfold State.afterBlock; split
  · exact Quiet.trans Quiet.upd (State.beginWrite_quiet _ _ _)
  · split
    · exact State.commandDone_quiet _
    · exact Quiet.upd

theorem State.ackTrue_quiet (s : State) (e) : Quiet s (s.ackTrue e) := by
  cases e <;> simp only [State.ackTrue]
  · unfold State.connectDone; dsimp only; split
    · exact Quiet.upd
    · exact Quiet.upd
  · exact State.beginWrite_quiet _ _ _
  · exact State.afterBlock_quiet _ _
  · exact State.afterBlock_quiet _ _
  · exact State.afterBlock_quiet _ _
  · exact State.commandDone_quiet _

theorem State.ackReturn_quiet (s : State) (e) : Quiet s (s.ackReturn e) := by
  rcases s.ackReturn_cases e with ⟨_, h⟩ | ⟨_, h⟩ <;> rw [h]
  · exact State.ackTrue_quiet _ _
  · cases e <;> exact State.raise_quiet _ _ _

theorem State.gotByte_quiet (s : State) (b) : Quiet s (s.gotByte b) := by
  unfold State.gotByte; split
  · exact Quiet.upd
  · exact State.enterAckWait_quiet _ _
  · exact Quiet.upd
  · exact Quiet.trans Quiet.upd (State.enterAckWait_quiet _ _)
  · rcases s.pollByte_cases ‹_› b with ⟨_, h⟩ | ⟨_, h⟩ | ⟨_, _, h⟩ <;> rw [h]
    · exact Quiet.upd (g := by intro _; simp [State.resolve, State.setHs])
    · exact Quiet.upd (g := by intro _; simp [State.resolve, State.setHs])
    · exact Quiet.upd
  · exact State.ackReturn_quiet _ _
  all_goals exact Quiet.same _

/-- The link's answer either finds no transfer, or closes it and is quiet from there. -/
theorem State.receive_quiet (s : State) (a) :
    s.receive a = s ∨ ∃ r x, s.inFlight = some r ∧ Quiet (s.settleTransfer r x) (s.receive a) := by
  cases hf : s.inFlight with
  | none => exact .inl (State.receive_idle _ _ hf)
  | some r =>
    refine .inr ⟨r, some a, rfl, ?_⟩
    cases a with
    | xerr => rw [State.receive_xerr _ _ hf]; exact State.raise_quiet _ _ _
    | byte b => rw [State.receive_byte _ _ _ hf]; exact State.gotByte_quiet _ _

/-- The engine's own move is quiet, but for the poll iteration that consumes a cancel. -/
theorem State.moveAt_quiet (u t : State) (h : u.moveAt.run = .next t) :
    Quiet u t ∨ (∃ e, u.seq.pos = .poll e ∧ u.status.cancelPend = true
      ∧ t = (u.setCancel false).raise .cancelled u.lastByte) := by
  rcases u.moveAt_run t h with rfl | ⟨_, _, rfl⟩ | ⟨e, hp, rfl⟩ | ⟨_, _, rfl⟩ | ⟨_, _, _, rfl⟩ | ⟨_, rfl⟩ | ⟨_, rfl⟩ | ⟨_, rfl⟩ | ⟨_, rfl⟩ | ⟨_, rfl⟩
  · exact .inl (Quiet.same _)
  · exact .inl Quiet.upd
  · rcases u.pollIteration_cases with ⟨hc, h'⟩ | ⟨_, _, h'⟩ | ⟨_, _, h'⟩ <;> rw [h']
    · exact .inr ⟨e, hp, hc, rfl⟩
    · exact .inl (State.raise_quiet _ _ _)
    · exact .inl Quiet.upd
  · exact .inl Quiet.upd
  · exact .inl (State.beginImage_quiet _ _ _)
  · exact .inl (Quiet.trans Quiet.upd (State.beginWrite_quiet _ _ _))
  · exact .inl (State.beginVersion_quiet _)
  · exact .inl (State.beginId_quiet _)
  · exact .inl (State.beginErase_quiet _)
  · exact .inl (State.beginPage_quiet _)

end Sys2Proof.Machine
end

