-- ==== Sys2Proof/Tests/Slice0.lean ====
section
/-! SUPPORT. The model's own tests. Part 1: well-formedness, decoding and the codec, with expected values from 30_encoding.md
and 95_test_vectors.md. Part 2: single steps, with expected register words from 95_test_vectors.md. Part 3: for each
obligation with hypotheses, a state and operands that meet them. -/

namespace Sys2Proof.Tests

open Sys2Proof Sys2Proof.Machine

/-! ### Small states -/

/-- DUMMY_TX = 0x00 as in 95_test_vectors.md, three polls, 600 bytes of image. -/
def params : Params := { dummyTx := 0x00#8, ackPollLimit := .polls 2, imgMaxLen := 600 }

/-- The reset state with those parameters. -/
def idle : State := { State.reset with params := params }

/-- BUSY with op `op` at position `p`, step `c` and phase `h` shown, during an ack wait. -/
def busy (op : BitVec 4) (c : ClientStep) (h : Phase) (p : Pos) : State :=
  { idle with
    status := { Status.reset with state := .busy, hs := .syncSent, curOp := op, step := c, phase := h }
    seq := { Seq.reset with pos := p } }

/-- The same with a transfer outstanding and an ack wait that resolved to ACK. -/
def asking (op : BitVec 4) (c : ClientStep) (h : Phase) (p : Pos) : State :=
  { busy op c h p with
    inFlight := some ⟨0x00#8, true⟩
    ackres := some .ack
    status := {
      Status.reset with
      state := .busy, hs := .acked, curOp := op, step := c, phase := h } }

/-- A state with given turns to come. -/
def turns (s : State) (ts : List Turn) : State := { s with agenda := ts }

/-- The next state, if there is one. -/
def nextOf : Host.Outcome State Fault Refusal → Option State
  | .next t => some t
  | .fault _ => none
  | .refused _ => none

/-- A view of the state after one step in which `tn` happens. -/
def after {α : Type} (s : State) (tn : Turn) (view : State → α) : Option α :=
  (nextOf (step (turns s [tn]))).map view

/-- The step stops with the model fault of R61. -/
def stops : Host.Outcome State Fault Refusal → Bool
  | .fault .unloadedImageByte => true
  | .next _ => false
  | .refused _ => false

/-! ### Part 1: syntax, decoding, codec -/

/-- The one check of WellFormed refuses a reserved op that holds a code of R93. -/
theorem test_wf_refuses_codes :
    [0x1#4, 0x2#4, 0x3#4, 0x4#4, 0x5#4, 0x6#4].map (fun op => (Instr.opReserved op 0#28).wf)
      = [false, false, false, false, false, false] := by decide

/-- And takes the ten reserved codes (R94). -/
theorem test_wf_takes_reserved :
    ([0x0#4, 0x7#4, 0x8#4, 0x9#4, 0xA#4, 0xB#4, 0xC#4, 0xD#4, 0xE#4, 0xF#4].all
      (fun op => (Instr.opReserved op 0#28).wf)) = true := by decide

/-- R82: the bits of 0x44 and of its complement, written out; the bytes after the frame stay. -/
theorem test_decode_frame :
    decodeWire [0b01000100#8, 0b10111011#8, 0xFF#8] = .instr .globalErase [0xFF#8] := by decide

/-- R80: 0x79 is ACK, bit by bit. -/
theorem test_decode_control : decodeWire [0b01111001#8] = .instr .ack [] := by decide

/-- R21, vector O8: 0x11 is CONNECT, with bits 31:4 ignored. -/
theorem test_decode_ctrl_ignored : decodeCtrl 0b00010001#32 = .opConnect 1#28 := by decide

/-- The opcode table's words, by its own numbering: rows GET_VERSION, WRITE_MEMORY, SYNC, NACK, op_FLASH_RUN, reserved. -/
theorem test_table_words :
    [(16, 0x01FE), (16, 0x31CE), (8, 0x5A), (8, 0x1F), (32, 0x6), (8, 0x6), (32, 0x7)].map
        (fun p => decodeTableWord p.1 p.2)
      = [some .getVersion, some .writeMemory, some .sync, some .nack, some (.opFlashRun 0#28), some (.opFlashRun 0#28),
        some (.opReserved 0x7#4 0#28)] := by decide

/-- Every row's word runs as the first step after reset. -/
theorem test_rows_run_from_reset :
    ([(16, 0x01FE), (16, 0x02FD), (16, 0x44BB), (16, 0x31CE), (8, 0x5A), (8, 0x79), (8, 0x1F), (32, 0x1),
        (32, 0x2), (32, 0x3), (32, 0x4), (32, 0x5), (32, 0x6), (32, 0x0)].all
      (fun p => (nextOf (step (State.reset.withFetchWord p.1 p.2))).isSome)) = true := by decide +kernel

/-- Vectors C3, C6, C8. -/
theorem test_address_block :
    foldXor [0x12#8, 0x34#8, 0x56#8, 0x78#8] = 0x08#8
      ∧ addressBlock 0x08000100#32 = [0x08#8, 0x00#8, 0x01#8, 0x00#8, 0x09#8]
      ∧ addressBlock 0xFFFFFF00#32 = [0xFF#8, 0xFF#8, 0xFF#8, 0x00#8, 0xFF#8] := by decide

/-- Vectors C9, C10, C13. -/
theorem test_blocks :
    writePayloadBlock [0xAB#8] = some [0x00#8, 0xAB#8, 0xAB#8]
      ∧ writePayloadBlock [0x01#8, 0x02#8, 0x03#8] = some [0x02#8, 0x01#8, 0x02#8, 0x03#8, 0x02#8]
      ∧ eraseBlock = [0xFF#8, 0xFF#8, 0x00#8] := by decide

/-- Vectors C16, C17. -/
theorem test_npages :
    [0, 1, 255, 256, 257, 300, 512, 600, 131072, 131073].map npages = [0, 1, 1, 1, 2, 2, 2, 3, 512, 513] := by decide

/-- Vector C21. -/
theorem test_chip_id : chipIdOf 0x04#8 0x13#8 = 0x0413#16 ∧ chipIdOf 0xFF#8 0x00#8 = 0xFF00#16 := by decide

/-! ### Part 2: single steps -/

/-- Vector O2: 257 bytes from 0xFFFFFF00 on would run past 0xFFFFFFFF. -/
theorem test_program_image_rejected :
    after { idle with len0 := 257#32, base := 0xFFFFFF00#32 } (.regWrite 0x0#4 0x5#32) (fun t => t.status.word)
      = some 0x00005703#32 := by decide

/-- Vector O1: an empty image is done without a transfer. -/
theorem test_program_image_empty :
    after { (busy 0x5#4 .none .none (.image .application 0x08020000#32)) with
        status := { Status.reset with state := .busy, curOp := 0x5#4 } } .engine (fun t => (t.status.word, t.trace))
      = some (0x00165002#32, []) := by decide

/-- Vector O7: LEN1 is one byte too long. -/
theorem test_flash_run_rejected :
    after { idle with len1 := 601#32 } (.regWrite 0x0#4 0x6#32) (fun t => t.status.word) = some 0x00006703#32 := by decide

/-- Vectors O5 and O6: reserved op codes. -/
theorem test_reserved_ops :
    [0x7#32, 0x0#32].map (fun v => after idle (.regWrite 0x0#4 v) (fun t => t.status.word))
      = [some 0x00007703#32, some 0x00000703#32] := by decide

/-- Vector O12: a cancel outside BUSY has no effect. -/
theorem test_cancel_idle :
    after idle (.regWrite 0x1#4 1#32) (fun t => t.status.word) = some 0x00000000#32 := by decide

/-- Vector O11: CTRL, LEN0 and an image load are ignored while BUSY and set OVR. -/
theorem test_writes_while_busy :
    [Turn.regWrite 0x0#4 1#32, .regWrite 0x4#4 5#32, .imgLoad .bootstub 0 0xEE#8].map
        (fun tn => after (busy 0x5#4 .programImage .sync (.poll .sync)) tn (fun t => (t.status.ovr, t.len0, t.img0)))
      = [some (true, 0#32, []), some (true, 0#32, []), some (true, 0#32, [])] := by decide

/-- Vector O14: byte 1 of three was not loaded, so the page cannot be built. -/
theorem test_unloaded_byte :
    stops (exec .writeMemory { idle with img0 := [(0, 0x12#8), (2, 0x56#8)], len0 := 3#32 }) = true := by decide

/-- R170: SYNC begins with one byte, `last` set. -/
theorem test_sync_request :
    after (busy 0x1#4 .connect .handshake (.write .handshake 0x5A#8 [])) .engine (fun t => t.inFlight)
      = some (some ⟨0x5A#8, true⟩) := by decide

/-- Vector X2: the first byte of a two-byte Write has `last` = 0. -/
theorem test_frame_request :
    after (busy 0x4#4 .globalErase .cmd (.write .cmd 0x44#8 [0xBB#8])) .engine (fun t => t.inFlight)
      = some (some ⟨0x44#8, false⟩) := by decide

/-- Vector H1 and R156: ACK on a poll. -/
theorem test_ack_on_poll :
    after (asking 0x1#4 .connect .handshake (.poll .handshake)) (.link (.byte 0x79#8))
        (fun t => (t.polls, t.status.hs, t.seq.pos)) = some (1#32, .acked, .echo .handshake) := by decide

/-- Vector H2: NACK on a poll; the echo is ACK all the same. -/
theorem test_nack_on_poll :
    after (asking 0x1#4 .connect .handshake (.poll .handshake)) (.link (.byte 0x1F#8))
        (fun t => (t.polls, t.status.hs, t.seq.pos.request t.params))
      = some (1#32, .nacked, some ⟨0x79#8, true⟩) := by decide

/-- Program P1 after its CONNECT: STATUS 0x00211026. -/
theorem test_connect_done :
    after (asking 0x1#4 .connect .handshake (.echo .handshake)) (.link (.byte 0x00#8)) (fun t => t.status.word)
      = some 0x00211026#32 := by decide

/-- Vector K3: NACK on the SYNC of GET_VERSION. -/
theorem test_protocol_nack :
    after { asking 0x2#4 .getVersion .sync (.echo .sync) with ackres := some .nack } (.link (.byte 0x00#8))
        (fun t => (t.errInfo.word, t.status.err)) = some (0x0000351F#32, .protocolNack) := by decide

/-- Vector K2: NACK in the connect handshake. -/
theorem test_handshake_failed :
    after { asking 0x1#4 .connect .handshake (.echo .handshake) with ackres := some .nack } (.link (.byte 0x00#8))
        (fun t => (t.errInfo.word, t.status.err)) = some (0x0000131F#32, .handshakeFailed) := by decide

/-- Program P5: the third poll has returned 0x00, and the limit is 3. -/
theorem test_timeout :
    after { busy 0x4#4 .globalErase .cmd (.poll .cmd) with pcnt := 3, lastRx := ⟨0x00#8, true⟩ } .engine
        (fun t => (t.status.word, t.errInfo.word, t.inFlight)) = some (0x00654113#32, 0x00005700#32, none) := by decide

/-- Vector O13: a pending cancel at the first poll iteration. -/
theorem test_cancelled :
    after { busy 0x1#4 .connect .handshake (.poll .handshake) with
        status := {
          Status.reset with
          state := .busy, hs := .syncSent, cancelPend := true, curOp := 0x1#4, step := .connect, phase := .handshake } }
      .engine (fun t => (t.status.word, t.errInfo.word)) = some (0x00211613#32, 0x00001200#32) := by decide

/-- Vector K12: `xerr` on a byte of the erase block. -/
theorem test_transport_error :
    after (asking 0x4#4 .globalErase .block0 (.write .block0 0xFF#8 [0x00#8])) (.link .xerr)
        (fun t => (t.errInfo.word, t.status.err)) = some (0x00005800#32, .transportError) := by decide

/-- Program P3: marker 0x02. -/
theorem test_bad_marker :
    after { asking 0x3#4 .getId .resp (.echo .resp) with
        rbuf := [0x02#8, 0x04#8, 0x13#8], seq := { Seq.reset with pos := .echo .resp, cmd := .getId } }
      (.link (.byte 0x00#8)) (fun t => (t.status.word, t.errInfo.word, t.chipId.word))
      = some (0x00C43423#32, 0x00004D02#32, 0x00000000#32) := by decide

/-- Vector O15: marker 0x01, chip id 0xFF00. -/
theorem test_chip_id_read :
    after { asking 0x3#4 .getId .resp (.echo .resp) with
        rbuf := [0x01#8, 0xFF#8, 0x00#8], seq := { Seq.reset with pos := .echo .resp, cmd := .getId } }
      (.link (.byte 0x00#8)) (fun t => (t.chipId.word, t.events)) = some (0x0001FF00#32, [.chipId 0xFF00#16]) := by decide

/-- Vector K5: the erased target, GLOBAL_ERASE is done. -/
theorem test_erased :
    after { asking 0x4#4 .globalErase .block0 (.echo .block0) with
        seq := { Seq.reset with pos := .echo .block0, cmd := .globalErase } }
      (.link (.byte 0x00#8)) (fun t => (t.status.state, t.events)) = some (.done, [.erased]) := by decide

/-- The end state of program P2, with the last page of image 1 acknowledged: STATUS 0x00B76022, PAGE 3. -/
theorem test_flash_run_end :
    after { asking 0x6#4 .programImage .block1 (.echo .block1) with
        page := 2#32, len1 := 600#32
        status := {
          Status.reset with
          state := .busy, connected := true, hs := .acked, curOp := 0x6#4, step := .programImage, curImg := .application
          phase := .block1 }
        seq := { Seq.reset with pos := .echo .block1, cmd := .writeMemory, imgBase := 0x08020000#32 } }
      (.link (.byte 0x00#8)) (fun t => (t.status.word, t.page, t.closes, t.events))
      = some (0x00B76022#32, 3#32, 1, [.pageWritten .application 2#32 0x08020200#32, .linkClose]) := by decide

/-- Vector E5: reset while a poll is outstanding. -/
theorem test_reset_abandons :
    after (asking 0x1#4 .connect .handshake (.poll .handshake)) .reset (fun t => (t.trace, t.status.word, t.inFlight))
      = some ([⟨⟨0x00#8, true⟩, none⟩], 0x00000000#32, none) := by decide

/-! ### Part 3: witnesses -/

theorem next_of_isSome (o : Host.Outcome State Fault Refusal) (h : (nextOf o).isSome = true) : ∃ t, o = .next t := by
  cases o with
  | next t => exact ⟨t, rfl⟩
  | fault _ => cases h
  | refused _ => cases h

theorem turnNext_turns (s : State) (tn : Turn) : (turns s [tn]).turnNext (turns s []) tn := ⟨[], rfl, rfl⟩

theorem engineNext_turns (s : State) : (turns s [.engine]).engineNext (turns s []) := .inl ⟨[], rfl, rfl⟩

theorem answerNext_turns (s : State) (r : Request) (a : LinkAnswer) (h : s.inFlight = some r) :
    (turns s [.link a]).answerNext (turns s []) r a := ⟨h, .inl ⟨[], rfl, rfl⟩⟩

/-- The other way the engine is next, and the other way an answer comes: the agenda is used up. -/
theorem witness_used_up_agenda :
    (∃ s u : State, s.engineNext u ∧ s.agenda = [])
      ∧ (∃ (s u : State) (r : Request) (a : LinkAnswer), s.answerNext u r a ∧ s.agenda = []) :=
  ⟨⟨idle, _, .inr ⟨rfl, rfl, rfl⟩, rfl⟩,
    ⟨asking 0x1#4 .connect .handshake (.poll .handshake), _, _, _, ⟨rfl, .inr ⟨rfl, rfl, rfl⟩⟩, rfl⟩⟩

theorem witness_DecodeOfEncode : (Instr.opReserved 0xF#4 0xFFFFFFF#28).wf = true := by decide

theorem witness_WireDecodeSound :
    decodeWire [0x31#8, 0xCE#8, 0x79#8] = .instr .writeMemory [0x79#8] := by decide

theorem witness_WireDecodeRejects :
    (0x00#8 ∉ [0x5A#8, 0x79#8, 0x1F#8, 0x01#8, 0x02#8, 0x44#8, 0x31#8])
      ∧ (0x31#8 ∈ [0x01#8, 0x02#8, 0x44#8, 0x31#8] ∧ 0x31#8 ^^^ 0x31#8 ≠ 0xFF#8)
      ∧ (0x01#8 ∈ [0x01#8, 0x02#8, 0x44#8, 0x31#8]) := by decide

theorem witness_PayloadBlockBytes :
    (∃ d : List Byte, 1 ≤ d.length ∧ d.length ≤ 256 ∧ d.length = 1)
      ∧ (∃ d : List Byte, 1 ≤ d.length ∧ d.length ≤ 256 ∧ d.length = 256)
      ∧ (∃ d : List Byte, d.length = 0) ∧ (∃ d : List Byte, 256 < d.length) :=
  ⟨⟨[0#8], by decide⟩, ⟨List.replicate 256 0#8, by rw [List.length_replicate]; omega⟩, ⟨[], rfl⟩, ⟨List.replicate 257 0#8, by rw [List.length_replicate]; omega⟩⟩

theorem witness_PageCountIsCeiling : 256 ≤ 256 * 1 ∧ 257 ≤ 256 * 2 := by decide

/-- A three-byte image: index 2 is its last byte and index 3 the first padded one. -/
theorem witness_PageContents :
    ∃ (m : Memory) (len i : Nat), (∀ j, j < 256 → 256 * i + j < len → ∃ b, Memory.read m (256 * i + j) = some b)
      ∧ 256 * i + 2 < len ∧ len ≤ 256 * i + 3 := by
  refine ⟨[(0, 0x12#8), (1, 0x34#8), (2, 0x56#8)], 3, 0, ?_, by decide, by decide⟩
  intro j _ h
  have hj : j = 0 ∨ j = 1 ∨ j = 2 := by omega
  rcases hj with rfl | rfl | rfl <;> simp [Memory.read]

/-- Two pages that end exactly at 0xFFFFFFFF. -/
theorem witness_PageAddressesExact : fits 600 257 (0xFFFFFE00#32).toNat = true ∧ 1 < npages 257 ∧ 0 < 1 := by decide

/-- Every index, the first and the last reserved one among them. -/
theorem witness_RegisterReads :
    (∀ n : BitVec 4, ∃ s u : State, s.turnNext u (.regRead n))
      ∧ BitVec.ule 0xD#4 0xD#4 = true ∧ BitVec.ule 0xD#4 0xF#4 = true :=
  ⟨fun _ => ⟨_, _, turnNext_turns idle _⟩, by decide, by decide⟩

theorem witness_RegisterWritesStore :
    ∀ n : BitVec 4, ∃ s u : State, s.turnNext u (.regWrite n 0xFFFFFFFF#32) ∧ s.status.state ≠ .busy :=
  fun _ => ⟨_, _, turnNext_turns idle _, fun h => (by cases h)⟩

theorem witness_BusyIgnoresHostWrites :
    (∀ n : BitVec 4, ∃ s u : State, s.status.state = .busy ∧ s.turnNext u (.regWrite n 0x7#32))
      ∧ (∃ s u : State, s.status.state = .busy ∧ s.turnNext u (.imgLoad .application 600 0xEE#8)) :=
  ⟨fun _ => ⟨_, _, rfl, turnNext_turns (busy 0x1#4 .connect .handshake (.poll .handshake)) _⟩,
    ⟨_, _, rfl, turnNext_turns (busy 0x1#4 .connect .handshake (.poll .handshake)) _⟩⟩

theorem witness_CancelWriteLatches :
    (∃ (s u : State) (v : Word), s.turnNext u (.regWrite 0x1#4 v) ∧ v.getLsbD 0 = true ∧ s.status.state = .busy)
      ∧ (∃ (s u : State) (v : Word), s.turnNext u (.regWrite 0x1#4 v) ∧ v.getLsbD 0 = false ∧ v ≠ 0#32)
      ∧ (∃ (s u : State) (v : Word), s.turnNext u (.regWrite 0x1#4 v) ∧ v.getLsbD 0 = true ∧ s.status.state ≠ .busy) :=
  ⟨⟨_, _, 1#32, turnNext_turns (busy 0x1#4 .connect .handshake (.poll .handshake)) _, by decide, rfl⟩,
    ⟨_, _, 2#32, turnNext_turns idle _, by decide, by decide⟩,
    ⟨_, _, 1#32, turnNext_turns idle _, by decide, by decide⟩⟩

theorem witness_ReadOnlyWritesIgnored :
    (∃ (s u : State), s.turnNext u (.regWrite 0x6#4 1#32) ∧ BitVec.ule 0x6#4 0x6#4 = true)
      ∧ (∃ (s u : State), s.turnNext u (.regWrite 0xF#4 1#32) ∧ BitVec.ule 0x6#4 0xF#4 = true) :=
  ⟨⟨_, _, turnNext_turns idle _, by decide⟩, ⟨_, _, turnNext_turns idle _, by decide⟩⟩

theorem witness_ImageLoadStores :
    (∃ s u : State, s.turnNext u (.imgLoad .bootstub 599 0xEE#8) ∧ s.status.state ≠ .busy ∧ 599 < s.params.imgMaxLen)
      ∧ (∃ s u : State, s.turnNext u (.imgLoad .bootstub 600 0xEE#8) ∧ s.status.state ≠ .busy
        ∧ s.params.imgMaxLen ≤ 600) :=
  ⟨⟨_, _, turnNext_turns idle _, by decide, by decide⟩, ⟨_, _, turnNext_turns idle _, by decide, by decide⟩⟩

/-- IDLE and DONE both accept. -/
theorem witness_SimpleOpsAccepted :
    (∃ s : State, s.accepts ∧ s.status.state = .idle) ∧ (∃ s : State, s.accepts ∧ s.status.state = .done) :=
  ⟨⟨idle, .inl rfl, rfl⟩, ⟨{ idle with status := { Status.reset with state := .done } }, .inr rfl, rfl⟩⟩

/-- An empty image at any base, and one whose page ends exactly at 0xFFFFFFFF. -/
theorem witness_ProgramImageAccepted :
    (∃ s : State, s.accepts ∧ (s.imageLen s.imgsel).toNat = 0)
      ∧ (∃ s : State, s.accepts ∧ 0 < (s.imageLen s.imgsel).toNat ∧ (s.imageLen s.imgsel).toNat ≤ s.params.imgMaxLen
        ∧ s.base.toNat + 256 * (((s.imageLen s.imgsel).toNat + 255) / 256) = 0x100000000) :=
  ⟨⟨idle, .inl rfl, rfl⟩,
    ⟨{ idle with len0 := 256#32, base := 0xFFFFFF00#32 }, .inl rfl, by decide, by decide, by decide⟩⟩

theorem witness_FlashRunAccepted :
    ∃ s : State, s.accepts ∧ s.len0.toNat = 0
      ∧ (s.len1.toNat ≤ s.params.imgMaxLen ∧ 0x08020000 + 256 * ((s.len1.toNat + 255) / 256) ≤ 0x100000000)
      ∧ s.len1.toNat = 600 :=
  ⟨{ idle with len1 := 600#32 }, .inl rfl, by decide, by decide, by decide⟩

/-- One byte too long, one byte past the end, and the two ways FLASH_RUN can be rejected. -/
theorem witness_BadArgumentsRejected :
    (∃ s : State, s.accepts ∧ 0 < (s.imageLen s.imgsel).toNat ∧ s.params.imgMaxLen < (s.imageLen s.imgsel).toNat)
      ∧ (∃ s : State, s.accepts ∧ 0 < (s.imageLen s.imgsel).toNat
        ∧ 0x100000000 < s.base.toNat + 256 * (((s.imageLen s.imgsel).toNat + 255) / 256))
      ∧ (∃ s : State, s.accepts ∧ s.params.imgMaxLen < s.len0.toNat)
      ∧ (∃ s : State, s.accepts ∧ s.params.imgMaxLen < s.len1.toNat)
      ∧ (∃ s : State, s.accepts ∧ 0 < s.len0.toNat ∧ 0x100000000 < 0x08000000 + 256 * ((s.len0.toNat + 255) / 256))
      ∧ (∃ s : State, s.accepts ∧ 0 < s.len1.toNat ∧ 0x100000000 < 0x08020000 + 256 * ((s.len1.toNat + 255) / 256)) :=
  ⟨⟨{ idle with len0 := 601#32 }, .inl rfl, by decide, by decide⟩,
    ⟨{ idle with len0 := 1#32, base := 0xFFFFFF01#32 }, .inl rfl, by decide, by decide⟩,
    ⟨{ idle with len0 := 601#32 }, .inl rfl, by decide⟩, ⟨{ idle with len1 := 601#32 }, .inl rfl, by decide⟩,
    ⟨{ idle with len0 := 0xF8000001#32 }, .inl rfl, by decide, by decide⟩,
    ⟨{ idle with len1 := 0xF7FE0001#32 }, .inl rfl, by decide, by decide⟩⟩

theorem witness_ReservedOpRejected :
    ∃ s : State, s.accepts ∧ (Instr.opReserved 0x0#4 0#28).wf = true ∧ (Instr.opReserved 0x7#4 0#28).wf = true
      ∧ (Instr.opReserved 0xF#4 0#28).wf = true := ⟨idle, .inl rfl, by decide, by decide, by decide⟩

/-- An ERROR state. -/
def failed : State :=
  { idle with
    status := { Status.reset with state := .error, err := .badRequest, curOp := 0x7#4 }
    seq := { Seq.reset with pos := .error } }

theorem witness_OpsIgnoredInError :
    ∀ v : Word, ∃ s u : State, s.turnNext u (.regWrite 0x0#4 v) ∧ s.status.state = .error :=
  fun _ => ⟨_, _, turnNext_turns failed _, rfl⟩

/-- A whole page (len0 = 0 reads no byte) and a page of one loaded byte. -/
theorem witness_WriteMemoryBegins :
    ∃ s : State, (∀ j, j < 256 → 256 * s.page.toNat + j < (s.imageLen s.status.curImg).toNat →
      ∃ b, Memory.read (s.image s.status.curImg) (256 * s.page.toNat + j) = some b)
      ∧ 0 < (s.imageLen s.status.curImg).toNat := by
  refine ⟨{ idle with img0 := [(0, 0x12#8)], len0 := 1#32 }, ?_, by decide⟩
  intro j _ h
  have hj : j = 0 := by
    have h1 : 256 * 0 + j < 1 := h
    omega
  subst hj
  exact ⟨0x12#8, rfl⟩

theorem witness_StepRunsCtrlWord : ∀ v : Word, ∃ s u : State, s.turnNext u (.regWrite 0x0#4 v) :=
  fun _ => ⟨_, _, turnNext_turns idle _⟩

theorem witness_StepRunsControlByte :
    (∀ b : Byte, ∃ (s u : State) (r : Request), s.answerNext u r (.byte b))
      ∧ decodeWire [0x79#8] = .instr .ack [] ∧ decodeWire [0x1F#8] = .instr .nack []
      ∧ decodeWire [0x5A#8] ≠ .instr .ack [] ∧ decodeWire [0x5A#8] ≠ .instr .nack [] :=
  ⟨fun _ => ⟨_, _, _, answerNext_turns (asking 0x1#4 .connect .handshake (.poll .handshake)) _ _ rfl⟩,
    by decide, by decide, by decide, by decide⟩

/-- The engine is next, BUSY with no transfer outstanding, at any position. -/
theorem witness_engine_at (p : Pos) :
    ∃ s u : State, s.engineNext u ∧ s.status.state = .busy ∧ s.inFlight = none ∧ s.seq.pos = p :=
  ⟨_, _, engineNext_turns (busy 0x1#4 .connect .handshake p), rfl, rfl, rfl⟩

theorem witness_StepRunsClientCall :
    (∀ c : ClientCall, ∃ s u : State,
        s.engineNext u ∧ s.status.state = .busy ∧ s.inFlight = none ∧ s.seq.pos = .call c)
      ∧ (∃ s u : State, s.engineNext u ∧ s.status.state = .busy ∧ s.inFlight = none ∧ s.seq.pos = .settle) :=
  ⟨fun c => witness_engine_at (.call c), witness_engine_at .settle⟩

theorem witness_AckResolvesPoll :
    ∀ e : Element, ∃ (s : State) (r : Request), s.inFlight = some r ∧ s.seq.pos = .poll e :=
  fun e => ⟨asking 0x1#4 .connect .handshake (.poll e), _, rfl, rfl⟩

theorem witness_NackResolvesPoll :
    ∀ e : Element, ∃ (s : State) (r : Request), s.inFlight = some r ∧ s.seq.pos = .poll e := witness_AckResolvesPoll

/-- ACK and NACK run; every byte on a Write with one byte to come, and in each of the first three places of GET_ID's Read. -/
theorem witness_ControlBytesElsewhere :
    (∃ (i : Instr) (b : Byte), (i = .ack ∧ b = 0x79#8) ∨ (i = .nack ∧ b = 0x1F#8))
      ∧ (∃ s : State, s.inFlight = none)
      ∧ (∃ (s : State) (r : Request), s.inFlight = some r ∧ s.seq.pos = .write .cmd 0x01#8 [0xFE#8])
      ∧ (∃ (s : State) (r : Request), s.inFlight = some r ∧ s.seq.pos = .read 1 [])
      ∧ (∀ b : Byte, ∃ (s u : State) (r : Request), s.answerNext u r (.byte b)
        ∧ s.seq.pos = .write .cmd 0x01#8 [0xFE#8])
      ∧ (∀ b : Byte, ∀ p ∈ [Pos.read 3 [], .read 2 [0x00#8], .read 1 [0x00#8, 0x01#8]],
        ∃ (s u : State) (r : Request), s.answerNext u r (.byte b) ∧ s.seq.pos = p) :=
  ⟨⟨.ack, 0x79#8, .inl ⟨rfl, rfl⟩⟩, ⟨idle, rfl⟩,
    ⟨asking 0x1#4 .connect .handshake (.write .cmd 0x01#8 [0xFE#8]), _, rfl, rfl⟩,
    ⟨asking 0x1#4 .connect .handshake (.read 1 []), _, rfl, rfl⟩,
    fun _ => ⟨_, _, _, answerNext_turns (asking 0x2#4 .getVersion .cmd (.write .cmd 0x01#8 [0xFE#8])) _ _ rfl, rfl⟩,
    fun _ p _ => ⟨_, _, _, answerNext_turns (asking 0x3#4 .getId .resp p) _ _ rfl, rfl⟩⟩

theorem witness_OtherByteDiscarded :
    ∀ e : Element, ∃ (s u : State) (r : Request) (b : Byte), s.answerNext u r (.byte b) ∧ s.seq.pos = .poll e
      ∧ b ≠ 0x79#8 ∧ b ≠ 0x1F#8 :=
  fun e => ⟨_, _, _, 0x5A#8, answerNext_turns (asking 0x1#4 .connect .handshake (.poll e)) _ _ rfl, rfl, by decide,
    by decide⟩

/-- A pending cancel with the limit reached; the limit reached; one poll below the limit. -/
theorem witness_PollIterationOrder :
    (∃ (s u : State), s.engineNext u ∧ s.status.state = .busy ∧ s.inFlight = none ∧ s.seq.pos = .poll .sync
        ∧ s.status.cancelPend = true ∧ pollBound s.params.ackPollLimit = some s.pcnt)
      ∧ (∃ (s u : State), s.engineNext u ∧ s.status.state = .busy ∧ s.inFlight = none ∧ s.seq.pos = .poll .sync
        ∧ s.status.cancelPend = false ∧ pollBound s.params.ackPollLimit = some s.pcnt)
      ∧ (∃ (s u : State), s.engineNext u ∧ s.status.state = .busy ∧ s.inFlight = none ∧ s.seq.pos = .poll .sync
        ∧ s.status.cancelPend = false ∧ pollBound s.params.ackPollLimit = some (s.pcnt + 1)) := by
  refine ⟨⟨_, _, engineNext_turns { busy 0x2#4 .getVersion .sync (.poll .sync) with
      pcnt := 3, status := { Status.reset with state := .busy, cancelPend := true } }, rfl, rfl, rfl, rfl, rfl⟩,
    ⟨_, _, engineNext_turns { busy 0x2#4 .getVersion .sync (.poll .sync) with pcnt := 3 }, rfl, rfl, rfl, rfl, rfl⟩,
    ⟨_, _, engineNext_turns { busy 0x2#4 .getVersion .sync (.poll .sync) with pcnt := 2 }, rfl, rfl, rfl, rfl, rfl⟩⟩

theorem witness_RequestsIssued :
    ∀ p ∈ [Pos.write .cmd 0x01#8 [0xFE#8], .write .cmd 0xFE#8 [], .read 1 [], .read 0 [0x00#8], .echo .cmd],
      ∃ s u : State, s.engineNext u ∧ s.status.state = .busy ∧ s.inFlight = none ∧ s.seq.pos = p :=
  fun p _ => witness_engine_at p

theorem witness_TransportErrorRaised :
    ∀ p : Pos, ∃ (s u : State) (r : Request), s.answerNext u r .xerr ∧ s.seq.pos = p :=
  fun p => ⟨_, _, _, answerNext_turns (asking 0x1#4 .connect .handshake p) _ _ rfl, rfl⟩

/-- A Write of one byte and one of three. -/
theorem witness_WriteSendsItsBytes :
    (∃ s : State, s.status.state = .busy ∧ s.inFlight = none ∧ s.seq.pos = .write .sync 0x5A#8 []
        ∧ [0x00#8].length = ([] : List Byte).length + 1 ∧ s.agenda = transfersTurns [0x00#8] ++ [.reset])
      ∧ (∃ s : State, s.status.state = .busy ∧ s.inFlight = none ∧ s.seq.pos = .write .block0 0xFF#8 [0xFF#8, 0x00#8]
        ∧ [0x79#8, 0x1F#8, 0x00#8].length = [0xFF#8, 0x00#8].length + 1
        ∧ s.agenda = transfersTurns [0x79#8, 0x1F#8, 0x00#8] ++ []) :=
  ⟨⟨turns (busy 0x2#4 .getVersion .sync (.write .sync 0x5A#8 [])) [.engine, .link (.byte 0x00#8), .reset], rfl, rfl, rfl,
      rfl, rfl⟩,
    ⟨turns (busy 0x4#4 .globalErase .block0 (.write .block0 0xFF#8 [0xFF#8, 0x00#8]))
      [.engine, .link (.byte 0x79#8), .engine, .link (.byte 0x1F#8), .engine, .link (.byte 0x00#8)], rfl, rfl, rfl, rfl,
      rfl⟩⟩

/-- Two bytes discarded under a limit of three polls. -/
theorem witness_AckWaitResolves :
    ∃ s : State, s.status.state = .busy ∧ s.inFlight = none ∧ s.seq.pos = .poll .cmd ∧ s.status.cancelPend = false
      ∧ s.pcnt = 0 ∧ (∀ d ∈ [0x00#8, 0x5A#8], discarded d = true) ∧ s.allowsPolls ([0x00#8, 0x5A#8].length + 1)
      ∧ s.agenda = discardedTurns [0x00#8, 0x5A#8] ++ transferTurns 0x79#8 ++ [] := by
  refine ⟨turns (busy 0x4#4 .globalErase .cmd (.poll .cmd))
    (discardedTurns [0x00#8, 0x5A#8] ++ transferTurns 0x79#8), rfl, rfl, rfl, rfl, rfl, by decide, ?_, rfl⟩
  intro n h
  have hn : some 3 = some n := h
  injection hn with hn
  exact Nat.le_of_eq hn

theorem witness_AckWaitTimesOut :
    ∃ s : State, s.status.state = .busy ∧ s.inFlight = none ∧ s.seq.pos = .poll .cmd ∧ s.status.cancelPend = false
      ∧ s.pcnt = 0 ∧ (∀ d ∈ [0x00#8, 0x00#8] ++ [0x00#8], discarded d = true)
      ∧ pollBound s.params.ackPollLimit = some ([0x00#8, 0x00#8].length + 1)
      ∧ s.agenda = discardedTurns ([0x00#8, 0x00#8] ++ [0x00#8]) ++ .engine :: [] :=
  ⟨turns (busy 0x4#4 .globalErase .cmd (.poll .cmd)) (discardedTurns [0x00#8, 0x00#8, 0x00#8] ++ [.engine]),
    rfl, rfl, rfl, rfl, rfl, by decide, rfl, rfl⟩

theorem witness_UnboundedWaitNeverEnds :
    ∃ s : State, s.status.state = .busy ∧ s.inFlight = none ∧ s.seq.pos = .poll .cmd ∧ s.status.cancelPend = false
      ∧ s.params.ackPollLimit = .unbounded ∧ (∀ d ∈ [0x00#8], discarded d = true)
      ∧ s.agenda = discardedTurns [0x00#8] ++ [] :=
  ⟨{ (turns (busy 0x4#4 .globalErase .cmd (.poll .cmd)) (discardedTurns [0x00#8])) with
      params := { dummyTx := 0x00#8, ackPollLimit := .unbounded, imgMaxLen := 600 } },
    rfl, rfl, rfl, rfl, rfl, by decide, rfl⟩

theorem witness_NackFailsTheOperation :
    ∀ e : Element, ∃ (s u : State) (r : Request) (b : Byte), s.answerNext u r (.byte b) ∧ s.seq.pos = .echo e
      ∧ s.ackres = some .nack :=
  fun e => ⟨_, _, _, 0x00#8, answerNext_turns
    { asking 0x1#4 .connect .handshake (.echo e) with ackres := some .nack } _ _ rfl, rfl, rfl⟩

/-- An echo answered, with ACKRES Ack, in an op `op`, with a command, its blocks left and a response. -/
theorem witness_echo_at (op : BitVec 4) (e : Element) (c : WireCmd) (bl : List (List Byte)) (rb : List Byte) :
    ∃ (s u : State) (r : Request) (x : Byte), s.answerNext u r (.byte x) ∧ s.ackres = some .ack ∧ s.status.curOp = op
      ∧ s.seq.pos = .echo e ∧ s.seq.cmd = c ∧ s.seq.blocks = bl ∧ s.rbuf = rb ∧ s.len0 = 0#32 ∧ s.len1 = 0#32 :=
  ⟨_, _, _, 0x00#8, answerNext_turns { asking op .none .none (.echo e) with
      seq := { pos := .echo e, cmd := c, blocks := bl, imgBase := 0#32 }, rbuf := rb } _ _ rfl,
    rfl, rfl, rfl, rfl, rfl, rfl, rfl, rfl⟩

/-- The four clauses of CommandElementsInOrder: SYNC; the frame and block 0 with a block left; the frame with none left and
a response of one byte. -/
theorem witness_CommandElementsInOrder :
    (∃ (s u : State) (r : Request) (x : Byte), s.answerNext u r (.byte x) ∧ s.ackres = some .ack ∧ s.seq.pos = .echo .sync)
      ∧ (∀ e : Element, ∃ (s u : State) (r : Request) (x : Byte), s.answerNext u r (.byte x) ∧ s.ackres = some .ack
        ∧ s.seq.pos = .echo e ∧ s.seq.blocks = [0xFF#8] :: [])
      ∧ (∃ (s u : State) (r : Request) (x : Byte), s.answerNext u r (.byte x) ∧ s.ackres = some .ack
        ∧ s.seq.pos = .echo .cmd ∧ s.seq.blocks = [] ∧ s.seq.cmd.responseLength = 0 + 1) := by
  refine ⟨?_, fun e => ?_, ?_⟩
  · obtain ⟨s, u, r, x, h, ha, _, hp, _⟩ := witness_echo_at 0x2#4 .sync .getVersion [] []
    exact ⟨s, u, r, x, h, ha, hp⟩
  · obtain ⟨s, u, r, x, h, ha, _, hp, _, hb, _⟩ := witness_echo_at 0x4#4 e .globalErase [[0xFF#8]] []
    exact ⟨s, u, r, x, h, ha, hp, hb⟩
  · obtain ⟨s, u, r, x, h, ha, _, hp, hc, hb, _⟩ := witness_echo_at 0x2#4 .cmd .getVersion [] []
    exact ⟨s, u, r, x, h, ha, hp, hb, by rw [hc]; rfl⟩

theorem witness_ResponseEnds :
    ∃ (s u : State) (r : Request) (b : Byte), s.answerNext u r (.byte b) ∧ s.seq.pos = .read 0 (0x00#8 :: []) :=
  ⟨_, _, _, 0x31#8, answerNext_turns (asking 0x2#4 .getVersion .resp (.read 0 [0x00#8])) _ _ rfl, rfl⟩

/-- The five clauses of StandaloneOpsEnd; the markers 0x01 and 0x00 among them, the marker's clause in FLASH_RUN too. -/
theorem witness_StandaloneOpsEnd :
    (∃ (s u : State) (r : Request) (x : Byte), s.answerNext u r (.byte x) ∧ s.ackres = some .ack ∧ s.status.curOp ≠ 0x6#4
        ∧ s.seq.pos = .echo .handshake)
      ∧ (∃ (s u : State) (r : Request) (x : Byte), s.answerNext u r (.byte x) ∧ s.ackres = some .ack
        ∧ s.status.curOp ≠ 0x6#4 ∧ s.seq.pos = .echo .resp ∧ s.seq.cmd = .getVersion ∧ s.rbuf = [0x31#8])
      ∧ (∀ op ∈ [0x3#4, 0x6#4], ∀ m : Byte, ∃ (s u : State) (r : Request) (x : Byte), s.answerNext u r (.byte x)
        ∧ s.ackres = some .ack ∧ s.status.curOp = op ∧ s.seq.pos = .echo .resp ∧ s.seq.cmd = .getId
        ∧ s.rbuf = [m, 0x04#8, 0x13#8])
      ∧ (∃ (s u : State) (r : Request) (x : Byte), s.answerNext u r (.byte x) ∧ s.ackres = some .ack
        ∧ s.status.curOp ≠ 0x6#4 ∧ s.seq.pos = .echo .block0 ∧ s.seq.cmd = .globalErase ∧ s.seq.blocks = []) := by
  refine ⟨?_, ?_, fun op _ m => ?_, ?_⟩
  · obtain ⟨s, u, r, x, h, ha, ho, hp, _⟩ := witness_echo_at 0x1#4 .handshake .getVersion [] []
    exact ⟨s, u, r, x, h, ha, by rw [ho]; decide, hp⟩
  · obtain ⟨s, u, r, x, h, ha, ho, hp, hc, _, hr, _⟩ := witness_echo_at 0x2#4 .resp .getVersion [] [0x31#8]
    exact ⟨s, u, r, x, h, ha, by rw [ho]; decide, hp, hc, hr⟩
  · obtain ⟨s, u, r, x, h, ha, ho, hp, hc, _, hr, _⟩ := witness_echo_at op .resp .getId [] [m, 0x04#8, 0x13#8]
    exact ⟨s, u, r, x, h, ha, ho, hp, hc, hr⟩
  · obtain ⟨s, u, r, x, h, ha, ho, hp, hc, hb, _⟩ := witness_echo_at 0x4#4 .block0 .globalErase [] []
    exact ⟨s, u, r, x, h, ha, by rw [ho]; decide, hp, hc, hb⟩

/-- Page 0 of image `i` acknowledged in op `op`, with the lengths and the bytes of image 0 and image 1 given. -/
def pageAcked (op : BitVec 4) (i : ImageSel) (l0 l1 : Word) (m : Memory) : State :=
  { asking op .programImage .block1 (.echo .block1) with
    status := {
      Status.reset with
      state := .busy, hs := .acked, curOp := op, step := .programImage, curImg := i, phase := .block1 }
    seq := { Seq.reset with pos := .echo .block1, cmd := .writeMemory }, len0 := l0, len1 := l1, img0 := m, img1 := m }

/-- The transfer closed that `s` has outstanding. -/
def answered (s : State) : State :=
  { (turns s []) with trace := s.trace ++ [⟨⟨0x00#8, true⟩, some (.byte 0x00#8)⟩], inFlight := none }

/-- The page counted. -/
def counted (s : State) : State :=
  { s with
    page := s.page + 1#32
    events := s.events ++ [.pageWritten s.status.curImg s.page (pageAddress s.seq.imgBase s.page.toNat)] }

/-- The last page in PROGRAM_IMAGE; and in both ops another page that can be built and one that cannot. -/
theorem witness_PageAcknowledged :
    (∃ (s u : State) (r : Request) (x : Byte), s.answerNext u r (.byte x) ∧ s.ackres = some .ack ∧ s.status.curOp ≠ 0x6#4
        ∧ s.seq.pos = .echo .block1 ∧ s.seq.cmd = .writeMemory ∧ s.seq.blocks = []
        ∧ npages (s.imageLen s.status.curImg).toNat ≤ (s.page + 1#32).toNat)
      ∧ (∀ op ∈ [0x5#4, 0x6#4], ∃ (s u v : State) (r : Request), s.answerNext u r (.byte 0x00#8)
        ∧ s.ackres = some .ack ∧ s.status.curOp = op ∧ s.seq.pos = .echo .block1 ∧ s.seq.cmd = .writeMemory
        ∧ s.seq.blocks = [] ∧ v = counted (answered u)
        ∧ (s.page + 1#32).toNat < npages (s.imageLen s.status.curImg).toNat ∧ ∃ t, exec .writeMemory v = .next t)
      ∧ (∀ op ∈ [0x5#4, 0x6#4], ∃ (s u v : State) (r : Request), s.answerNext u r (.byte 0x00#8)
        ∧ s.ackres = some .ack ∧ s.status.curOp = op ∧ s.seq.pos = .echo .block1 ∧ s.seq.cmd = .writeMemory
        ∧ s.seq.blocks = [] ∧ v = counted (answered u)
        ∧ (s.page + 1#32).toNat < npages (s.imageLen s.status.curImg).toNat ∧ ∃ f, exec .writeMemory v = .fault f) := by
  refine ⟨⟨_, _, _, 0x00#8, answerNext_turns (pageAcked 0x5#4 .bootstub 256#32 0#32 []) _ _ rfl, rfl, by decide, rfl, rfl,
      rfl, by decide⟩, fun op ho => ?_, fun op ho => ?_⟩
  · refine ⟨_, _, _, _, answerNext_turns (pageAcked op .bootstub 257#32 0#32 [(256, 0x11#8)]) _ _ rfl, rfl, rfl, rfl, rfl,
      rfl, rfl, by decide +revert, next_of_isSome _ ?_⟩
    revert op
    decide +kernel
  · exact ⟨_, _, _, _, answerNext_turns (pageAcked op .bootstub 257#32 0#32 []) _ _ rfl, rfl, rfl, rfl, rfl, rfl, rfl,
      by decide +revert, ⟨_, rfl⟩⟩

/-- The engine in front of an image of PROGRAM_IMAGE. -/
def imageAhead (len : Word) (m : Memory) : State :=
  { busy 0x5#4 .none .none (.image .bootstub 0x08000000#32) with len0 := len, img0 := m }

/-- The state its first page is built in. -/
def imageOpened (s : State) : State :=
  { (turns s []) with
    status := { s.status with step := .programImage, curImg := .bootstub }
    page := 0#32
    seq := { s.seq with imgBase := 0x08000000#32 } }

theorem witness_ProgramImageBegins :
    (∃ s u : State, s.engineNext u ∧ s.status.state = .busy ∧ s.inFlight = none
        ∧ s.seq.pos = .image .bootstub 0x08000000#32 ∧ s.status.curOp ≠ 0x6#4 ∧ s.imageLen .bootstub = 0#32)
      ∧ (∃ s u v : State, s.engineNext u ∧ s.status.state = .busy ∧ s.inFlight = none
        ∧ s.seq.pos = .image .bootstub 0x08000000#32 ∧ s.status.curOp ≠ 0x6#4 ∧ v = imageOpened s
        ∧ s.imageLen .bootstub ≠ 0#32 ∧ ∃ t, exec .writeMemory v = .next t)
      ∧ (∃ s u v : State, s.engineNext u ∧ s.status.state = .busy ∧ s.inFlight = none
        ∧ s.seq.pos = .image .bootstub 0x08000000#32 ∧ s.status.curOp ≠ 0x6#4 ∧ v = imageOpened s
        ∧ s.imageLen .bootstub ≠ 0#32 ∧ ∃ f, exec .writeMemory v = .fault f) := by
  refine ⟨⟨_, _, engineNext_turns (imageAhead 0#32 []), rfl, rfl, rfl, by decide, rfl⟩,
    ⟨_, _, _, engineNext_turns (imageAhead 1#32 [(0, 0x11#8)]), rfl, rfl, rfl, by decide, rfl, by decide,
      next_of_isSome _ (by decide +kernel)⟩,
    ⟨_, _, _, engineNext_turns (imageAhead 1#32 []), rfl, rfl, rfl, by decide, rfl, by decide, ⟨_, rfl⟩⟩⟩

/-- FLASH_RUN with its erase acknowledged, the lengths and the bytes of the two images given. -/
def erasing (l0 l1 : Word) (m : Memory) : State :=
  { asking 0x6#4 .globalErase .block0 (.echo .block0) with
    seq := { Seq.reset with pos := .echo .block0, cmd := .globalErase }, len0 := l0, len1 := l1, img0 := m, img1 := m }

/-- An image opened at its fixed address. -/
def opened (i : ImageSel) (base : Word) (s : State) : State :=
  { s with
    page := 0#32
    status := { s.status with step := .programImage, curImg := i }
    seq := { s.seq with imgBase := base } }

/-- The seams of FLASH_RUN: any echo of it with the images empty; the erase's with each pair of lengths, and a first page of
either image that can be built and one that cannot; and the last page of either image. -/
theorem witness_FlashRunOrder :
    (∀ (e : Element) (c : WireCmd) (rb : List Byte), ∃ (s u : State) (r : Request) (x : Byte),
        s.answerNext u r (.byte x) ∧ s.ackres = some .ack ∧ s.status.curOp = 0x6#4 ∧ s.seq.pos = .echo e
        ∧ s.seq.cmd = c ∧ s.seq.blocks = [] ∧ s.rbuf = rb ∧ s.len0 = 0#32 ∧ s.len1 = 0#32)
      ∧ (∀ l ∈ [(1#32, 0#32), (0#32, 1#32), (0#32, 0#32)], ∃ (s u : State) (r : Request),
        s.answerNext u r (.byte 0x00#8) ∧ s.ackres = some .ack ∧ s.status.curOp = 0x6#4 ∧ s.seq.pos = .echo .block0
        ∧ s.seq.cmd = .globalErase ∧ s.seq.blocks = [] ∧ s.len0 = l.1 ∧ s.len1 = l.2)
      ∧ (∀ i : ImageSel, ∃ t, exec .writeMemory (opened i 0x08000000#32 (answered (erasing 1#32 1#32 [(0, 0x11#8)])))
        = .next t)
      ∧ (∀ i : ImageSel, ∃ f, exec .writeMemory (opened i 0x08020000#32 (answered (erasing 1#32 1#32 []))) = .fault f)
      ∧ (∀ (i : ImageSel), ∀ l1 ∈ [1#32, 0#32, 256#32], ∃ (s u : State) (r : Request), s.answerNext u r (.byte 0x00#8)
        ∧ s.ackres = some .ack ∧ s.status.curOp = 0x6#4 ∧ s.seq.pos = .echo .block1 ∧ s.seq.cmd = .writeMemory
        ∧ s.seq.blocks = [] ∧ npages (s.imageLen s.status.curImg).toNat ≤ (s.page + 1#32).toNat
        ∧ s.status.curImg = i ∧ s.len1 = l1) := by
  refine ⟨fun e c rb => witness_echo_at 0x6#4 e c [] rb, fun l _ => ?_, fun i => next_of_isSome _ ?_, fun i => ?_,
    fun i l1 hl => ?_⟩
  · exact ⟨_, _, _, answerNext_turns (erasing l.1 l.2 []) _ _ rfl, rfl, rfl, rfl, rfl, rfl, rfl, rfl⟩
  · cases i <;> decide +kernel
  · cases i <;> exact ⟨_, rfl⟩
  · refine ⟨_, _, _, answerNext_turns (pageAcked 0x6#4 i 256#32 l1 []) _ _ rfl, rfl, rfl, rfl, rfl, rfl, ?_, rfl, rfl⟩
    cases i
    · show npages (256#32).toNat ≤ (0#32 + 1#32).toNat
      decide
    · show npages l1.toNat ≤ (0#32 + 1#32).toNat
      have h : l1 = 1#32 ∨ l1 = 0#32 ∨ l1 = 256#32 := by simpa using hl
      rcases h with rfl | rfl | rfl <;> decide

theorem witness_GetVersionRun :
    ∃ s : State, s.accepts ∧ s.inFlight = none
      ∧ s.agenda = .regWrite 0x0#4 (ctrlWord 0x2#4 0#28) :: .engine ::
        transfersTurns [0x00#8, 0x79#8, 0x00#8, 0x00#8, 0x00#8, 0x79#8, 0x00#8, 0x00#8, 0x31#8, 0x79#8, 0x00#8] ++ [] :=
  ⟨turns idle (.regWrite 0x0#4 (ctrlWord 0x2#4 0#28) :: .engine ::
    transfersTurns [0x00#8, 0x79#8, 0x00#8, 0x00#8, 0x00#8, 0x79#8, 0x00#8, 0x00#8, 0x31#8, 0x79#8, 0x00#8]),
    .inl rfl, rfl, rfl⟩

theorem witness_GlobalEraseRun :
    ∃ s : State, s.accepts ∧ s.inFlight = none
      ∧ s.agenda = .regWrite 0x0#4 (ctrlWord 0x4#4 0#28) :: .engine ::
        transfersTurns [0x00#8, 0x79#8, 0x00#8, 0x00#8, 0x00#8, 0x79#8, 0x00#8, 0x00#8, 0x00#8, 0x00#8, 0x79#8, 0x00#8]
          ++ [] :=
  ⟨turns idle (.regWrite 0x0#4 (ctrlWord 0x4#4 0#28) :: .engine ::
    transfersTurns [0x00#8, 0x79#8, 0x00#8, 0x00#8, 0x00#8, 0x79#8, 0x00#8, 0x00#8, 0x00#8, 0x00#8, 0x79#8, 0x00#8]),
    .inl rfl, rfl, rfl⟩

/-- With a transfer outstanding. -/
theorem witness_ResetTakesEverything :
    ∃ s u : State, s.turnNext u .reset ∧ s.inFlight ≠ none :=
  ⟨_, _, turnNext_turns (asking 0x1#4 .connect .handshake (.poll .handshake)) _, by decide⟩

/-- A BUSY state of CONNECT with its first poll outstanding. -/
def polling : State :=
  { busy 0x1#4 .connect .handshake (.poll .handshake) with inFlight := some ⟨0x00#8, true⟩ }

theorem no_bytes (i : ImageSel) (k : Nat) (s : State) (h0 : s.img0 = []) (h1 : s.img1 = []) :
    Memory.read (s.image i) k = none := by
  cases i <;> simp [State.image, h0, h1, Memory.read]

/-- A BUSY state with a transfer outstanding meets the invariant, and steps. -/
theorem witness_StepKeepsInv : ∃ s t : State, s.Inv ∧ s.status.state = .busy ∧ step s = .next t := by
  refine ⟨turns polling [.link (.byte 0x79#8)], _, ?_, rfl, rfl⟩
  exact {
    imagesCanonical := ⟨rfl, rfl⟩
    imagesWithin := fun i k b h => by rw [no_bytes i k _ rfl rfl] at h; cases h
    errorIff := by decide
    posState := rfl
    opHasBody := fun _ => ⟨.connect, rfl⟩
    portMatches := fun _ h => h
    resultsZero := by decide
    rbufShort := by decide
    readLength := fun _ _ h => (by cases h)
    blocksNonempty := fun _ h => (by cases h)
    hsAckres := by decide
    hsAtPosition := ⟨fun _ _ => rfl, fun _ h => (by cases h)⟩
    pollsBounded := fun n h => by
      have hn : some 3 = some n := h
      injection hn with hn
      subst hn
      exact ⟨Nat.zero_le _, fun _ _ _ _ => Nat.zero_lt_succ _⟩
    pageBounded := by decide
    elementShown := fun e h => by cases h; exact ⟨rfl, rfl⟩
    stepShown := ⟨fun h => (by cases h), fun _ _ h => (by cases h), fun _ _ h => (by cases h), fun h => (by cases h)⟩
    argsHold := ⟨fun _ h => (by cases h), fun _ _ h => (by cases h), fun _ h => (by cases h)⟩
    addrShown := fun e h he => by cases h; exact absurd rfl he }

/-- A reachable ERROR state that takes a step other than reset. -/
theorem witness_ErrorIsSticky :
    ∃ s t : State, s.Inv ∧ s.status.state = .error ∧ (∀ rest, s.agenda ≠ .reset :: rest) ∧ step s = .next t := by
  refine ⟨turns failed [.regWrite 0x0#4 1#32], _, ?_, rfl, fun _ h => (by cases h), rfl⟩
  exact {
    imagesCanonical := ⟨rfl, rfl⟩
    imagesWithin := fun i k b h => by rw [no_bytes i k _ rfl rfl] at h; cases h
    errorIff := by decide
    posState := rfl
    opHasBody := fun h => (by cases h)
    portMatches := fun _ h => (by cases h)
    resultsZero := by decide
    rbufShort := by decide
    readLength := fun _ _ h => (by cases h)
    blocksNonempty := fun _ h => (by cases h)
    hsAckres := by decide
    hsAtPosition := ⟨fun _ h => (by rcases h with h | h <;> cases h), fun _ h => (by cases h)⟩
    pollsBounded := fun n _ => ⟨Nat.zero_le _, fun _ _ h => (by cases h)⟩
    pageBounded := by decide
    elementShown := fun e h => by cases h
    stepShown := ⟨fun h => (by cases h), fun _ _ h => (by cases h), fun _ _ h => (by cases h), fun h => (by cases h)⟩
    argsHold := ⟨fun h => (by cases h), fun _ _ h => (by cases h), fun h => (by cases h)⟩
    addrShown := fun e h => by cases h }

theorem witness_RecordOnlyGrows : ∃ s t : State, step s = .next t ∧ s.trace ≠ t.trace :=
  ⟨turns polling [.link (.byte 0x79#8)], _, rfl, by decide⟩

/-- A latched OVR and a pending cancel: one goes away by an acceptance, the other by the poll iteration. -/
theorem witness_LatchesHold :
    (∃ s t : State, (∀ rest, s.agenda ≠ .reset :: rest) ∧ step s = .next t ∧ s.status.ovr = true
        ∧ s.status.hs ≠ .idle ∧ s.status.cancelPend = true ∧ t.status.cancelPend = false ∧ s.accepts)
      ∧ (∃ s t : State, (∀ rest, s.agenda ≠ .reset :: rest) ∧ step s = .next t ∧ s.status.cancelPend = true
        ∧ t.status.cancelPend = false ∧ s.seq.pos = .poll .handshake) := by
  refine ⟨⟨turns { idle with
      status := { Status.reset with state := .done, ovr := true, hs := .acked, cancelPend := true } }
      [.regWrite 0x0#4 1#32], _, fun _ h => (by cases h), rfl, rfl, by decide, rfl, rfl, .inr rfl⟩,
    ⟨turns { busy 0x1#4 .connect .handshake (.poll .handshake) with
      status := { Status.reset with state := .busy, cancelPend := true } } [.engine], _, fun _ h => (by cases h), rfl, rfl,
      rfl, rfl⟩⟩

theorem witness_BusyFreezesArguments :
    ∃ s t u : State, s.status.state = .busy ∧ (∀ rest, s.agenda ≠ .reset :: rest) ∧ step s = .next t
      ∧ s.engineNext u ∧ s.inFlight ≠ none :=
  ⟨turns polling [.engine], _, _, rfl, fun _ h => (by cases h), rfl, engineNext_turns polling, by decide⟩

end Sys2Proof.Tests
end

section
/-! PROOFS. O58: what a step does to the record (the wire trace, the event list) and to the parameters. -/

namespace Sys2Proof.Machine

/-- From `s` to `t` the finished trace gains at most one entry, events are only added, and the parameters stay. The agenda
is no part of it, so taking a turn off the agenda of `s` changes nothing about it. -/
def RecordGrows (s t : State) : Prop :=
  (∃ es, t.trace = s.trace ++ es ∧ es.length ≤ 1) ∧ (∃ evs, t.events = s.events ++ evs) ∧ t.params = s.params

theorem RecordGrows.of_eq {s t : State} (htrace : t.trace = s.trace) (hevents : t.events = s.events)
    (hparams : t.params = s.params) : RecordGrows s t :=
  ⟨⟨[], by simp [htrace], by simp⟩, ⟨[], by simp [hevents]⟩, hparams⟩

theorem RecordGrows.same (s : State) : RecordGrows s s := .of_eq rfl rfl rfl

/-- What the sequencer does between transfers finishes no transfer. -/
theorem Quiet.recordGrows {s t : State} (h : Quiet s t) : RecordGrows s t :=
  ⟨⟨[], by simp [h.trace], by simp⟩, h.events, h.params⟩

/-! ### Reset and the link: the two moves that finish a trace entry -/

/-- Abandoning the outstanding request puts it on the trace, and nothing else (R281). -/
theorem State.abandon_trace_grows (s : State) : ∃ es, s.abandon.trace = s.trace ++ es ∧ es.length ≤ 1 := by
  unfold State.abandon
  cases s.inFlight with
  | none => exact ⟨[], by simp⟩
  | some r => exact ⟨[⟨r, none⟩], by simp [State.settleTransfer]⟩

/-- A reset keeps what was observed (log entry 1). -/
theorem State.applyReset_recordGrows (s : State) : RecordGrows s s.applyReset :=
  ⟨s.abandon_trace_grows, ⟨[], (List.append_nil _).symm⟩, rfl⟩

/-- The link's answer finishes the one outstanding transfer, if there is one. -/
theorem State.receive_recordGrows (s : State) (a : LinkAnswer) : RecordGrows s (s.receive a) := by
  rcases s.receive_quiet a with h | ⟨r, x, -, h⟩
  · rw [h]; exact .same _
  · exact ⟨⟨[⟨r, x⟩], h.trace, by simp⟩, h.events, h.params⟩

/-! ### The host: no access adds to the record -/

theorem State.unlessBusy_recordGrows {s t : State} (h : RecordGrows s t) : RecordGrows s (s.unlessBusy t) := by
  unfold State.unlessBusy
  split
  · exact .of_eq rfl rfl rfl
  · exact h

theorem State.writeCancel_recordGrows (s : State) (v : Word) : RecordGrows s (s.writeCancel v) := by
  unfold State.writeCancel
  split
  · exact .of_eq rfl rfl rfl
  · exact .same _

theorem State.regWrite_recordGrows (s : State) (n : BitVec 4) (v : Word) : RecordGrows s (s.regWrite n v) := by
  unfold State.regWrite
  split_ifs
  · exact s.writeCancel_recordGrows v
  -- BASE, IMGSEL, LEN0 and LEN1
  iterate 4 · exact State.unlessBusy_recordGrows (.of_eq rfl rfl rfl)
  · exact .same s

theorem State.imgLoad_recordGrows (s : State) (i : ImageSel) (k : Nat) (b : Byte) :
    RecordGrows s (s.imgLoad i k b) := by
  apply State.unlessBusy_recordGrows
  split
  · exact .of_eq (by simp) (by simp) (by simp)
  · exact .same _

/-- The acceptance step of a host op only starts its body or raises BAD_REQUEST (R220, R221). -/
theorem decodeCtrl_recordGrows {v : Word} {s t : State} (h : exec (decodeCtrl v) s = .next t) : RecordGrows s t := by
  rcases decodeCtrl_exec v s t h with ⟨-, rfl⟩ | ⟨-, rfl⟩ | ⟨-, code, ⟨op, -, rfl⟩ | rfl⟩
  · exact .of_eq rfl rfl rfl
  · exact .same _
  · rcases (s.acceptFields code).startOp_cases op with ⟨-, e⟩ | ⟨-, e⟩ <;> rw [e] <;> exact .of_eq rfl rfl rfl
  · exact .of_eq rfl rfl rfl

/-! ### The engine -/

/-- The engine's own move finishes no transfer, also where it consumes a cancel. -/
theorem State.moveAt_recordGrows {s t : State} (h : s.moveAt.run = .next t) : RecordGrows s t := by
  rcases s.moveAt_quiet t h with h | ⟨e, -, -, rfl⟩
  · exact h.recordGrows
  · exact .of_eq rfl rfl rfl

/-! ### The step -/

theorem step_recordGrows {s t : State} (h : step s = .next t) : RecordGrows s t := by
  obtain ⟨a, u, rfl, hu⟩ := step_cases s t h
  change RecordGrows { s with agenda := a } t
  rcases hu with ⟨-, rfl⟩ | ⟨n, v, -, -, rfl⟩ | ⟨v, -, hv⟩ | ⟨n, -, rfl⟩ | ⟨i, k, b, -, rfl⟩ | ⟨x, rfl⟩ | ⟨-, rfl⟩
    | ⟨-, -, hm⟩
  · exact State.applyReset_recordGrows _
  · exact State.regWrite_recordGrows _ n v
  · exact decodeCtrl_recordGrows hv
  · exact .of_eq rfl rfl rfl
  · exact State.imgLoad_recordGrows _ i k b
  · exact State.receive_recordGrows _ x
  · exact .same _
  · exact State.moveAt_recordGrows hm

/-- Settles O58, by the case analysis of a step: only the link's answer and a reset finish a trace entry, the one that was
outstanding. -/
theorem recordOnlyGrows : Obligations.RecordOnlyGrows := fun _ _ h => step_recordGrows h

end Sys2Proof.Machine
end

section
/-! PROOFS. O55 and O56: the invariant. What it says of a state is cut in two: `State.Data` and `State.Running`, which do not
read the sequencer's position, and `Pos.Holds`, what it asks of a BUSY state at a position. Every operation of the sequencer
keeps the first and ends by standing at a position it has established. -/

namespace Sys2Proof.Machine

/-! ### The invariant without the position -/

/-- The clauses that read neither STATUS.STATE nor the position nor the port. -/
structure State.Data (s : State) : Prop where
  imagesCanonical : Memory.wf s.img0 = true ∧ Memory.wf s.img1 = true
  imagesWithin : ∀ i k b, Memory.read (s.image i) k = some b → k < s.params.imgMaxLen
  resultsZero : (s.version.valid = false → s.version.ver = 0#8) ∧ (s.chipId.valid = false → s.chipId.id = 0#16)
  rbufShort : s.rbuf.length ≤ 3
  blocksNonempty : ∀ b ∈ s.seq.blocks, b ≠ []
  hsAckres : (s.status.hs = .acked → s.ackres = some .ack) ∧ (s.status.hs = .nacked → s.ackres = some .nack)
    ∧ (s.status.hs = .idle → s.ackres = none)
  pollsBounded : ∀ n, pollBound s.params.ackPollLimit = some n → s.pcnt ≤ n
  pageBounded : s.page.toNat ≤ npages s.params.imgMaxLen

/-- Both images of FLASH_RUN passed the argument check (R221, R227). -/
def State.FlashFits (s : State) : Prop :=
  fits s.params.imgMaxLen s.len0.toNat bootstubAddress.toNat = true
    ∧ fits s.params.imgMaxLen s.len1.toNat appAddress.toNat = true

/-- The engine is BUSY between two transfers. -/
structure State.Running (s : State) : Prop extends State.Data s where
  busy : s.status.state = .busy
  noError : s.status.err = .none
  opHasBody : ∃ op : HostOp, s.status.curOp = op.code
  flashFits : s.inFlashRun = true → s.FlashFits
  portFree : s.inFlight = none

theorem State.Inv.data {s : State} (h : s.Inv) : s.Data where
  imagesCanonical := h.imagesCanonical
  imagesWithin := h.imagesWithin
  resultsZero := h.resultsZero
  rbufShort := h.rbufShort
  blocksNonempty := h.blocksNonempty
  hsAckres := h.hsAckres
  pollsBounded := fun n hn => (h.pollsBounded n hn).1
  pageBounded := h.pageBounded

/-- ERR is 0 outside ERROR (R32). -/
theorem State.Inv.noError {s : State} (h : s.Inv) (hs : s.status.state ≠ .error) : s.status.err = .none :=
  not_not.mp (mt h.errorIff.mpr hs)

/-- A BUSY state is running as soon as its outstanding transfer, if any, is taken off the port. -/
theorem State.Inv.running {s : State} (h : s.Inv) (hb : s.status.state = .busy) (hf : s.inFlight = none) : s.Running :=
  { h.data with
    busy := hb
    noError := h.noError (by simp [hb])
    opHasBody := h.opHasBody hb
    flashFits := h.argsHold.1 hb
    portFree := hf }

/-! ### What the invariant asks at a position -/

/-- Only a BUSY engine makes requests. -/
theorem Pos.engineState_of_request {pos : Pos} {p : Params} {r : Request} (h : pos.request p = some r) :
    pos.engineState = .busy := by
  cases pos with
  | idle | done | error => cases h
  | _ => rfl

/-- Only a BUSY engine is in an element. -/
theorem Pos.engineState_of_element {p : Pos} {e : Element} (h : p.element = some e) : p.engineState = .busy := by
  cases p with
  | idle | done | error => cases h
  | _ => rfl

/-- The step of `send_command`'s elements is its command's. -/
theorem Element.clientStep_of_ne {e : Element} (he : e ≠ .handshake) (c : WireCmd) : e.clientStep c = c.clientStep := by
  cases e with
  | handshake => exact absurd rfl he
  | _ => rfl

/-- In front of a page: the step is PROGRAM_IMAGE and the page exists (R195). -/
def State.InPages (s : State) : Prop := s.status.step = .programImage ∧ s.PageOpen

/-- STEP and PHASE name the element in progress, and while a page is sent ADDR is its address (R34, R36, R45, R178). -/
structure State.Shows (s : State) (e : Element) : Prop where
  step : s.status.step = e.clientStep s.seq.cmd
  phase : s.status.phase = e.phase
  addr : e ≠ .handshake → s.seq.cmd = .writeMemory → s.addr = pageAddress s.seq.imgBase s.page.toNat
  pageOpen : s.status.step = .programImage → s.PageOpen

/-- What the invariant asks of a BUSY state that stands at a position. -/
def Pos.Holds (s : State) : Pos → Prop
  | .idle | .done | .error => False
  | .call .writePage => s.InPages
  | .call .connect | .call .getVersion | .call .getId | .call .globalErase => s.status.step = .none
  | .image i base => s.status.step = .none ∧ fits s.params.imgMaxLen (s.imageLen i).toNat base.toNat = true
  | .write e _ _ => s.Shows e
  | .read n got => s.Shows .resp ∧ n + got.length = s.seq.cmd.responseLength
  | .poll e | .pollWait e => s.Shows e ∧ s.status.hs = .syncSent
  | .echo e => s.Shows e ∧ (s.status.hs = .acked ∨ s.status.hs = .nacked)
  | .settle => s.status.step = .settle

theorem State.Inv.shows {s : State} {e : Element} (h : s.Inv) (hb : s.status.state = .busy)
    (he : s.seq.pos.element = some e) : s.Shows e where
  step := (h.elementShown e he).1
  phase := (h.elementShown e he).2
  addr := h.addrShown e he
  pageOpen := h.argsHold.2.2 hb

theorem State.Inv.holds {s : State} (h : s.Inv) (hb : s.status.state = .busy) : s.seq.pos.Holds s := by
  have hpos := h.posState.symm.trans hb
  obtain ⟨hpage, hcall, himage, hsettle⟩ := h.stepShown
  obtain ⟨-, hfits, hopen⟩ := h.argsHold
  obtain ⟨hpoll, hecho⟩ := h.hsAtPosition
  cases hp : s.seq.pos with
  | idle | done | error => rw [hp] at hpos; cases hpos
  | call c =>
    cases c with
    | writePage => exact ⟨hpage hp, hopen hb (hpage hp)⟩
    | connect | getVersion | getId | globalErase => exact hcall _ (by decide) hp
  | image i base => exact ⟨himage i base hp, hfits i base hp⟩
  | write e b rest => exact h.shows hb (by rw [hp]; rfl)
  | read n got => exact ⟨h.shows hb (by rw [hp]; rfl), h.readLength n got hp⟩
  | poll e => exact ⟨h.shows hb (by rw [hp]; rfl), hpoll e (.inl hp)⟩
  | pollWait e => exact ⟨h.shows hb (by rw [hp]; rfl), hpoll e (.inr hp)⟩
  | echo e => exact ⟨h.shows hb (by rw [hp]; rfl), hecho e hp⟩
  | settle => exact hsettle hp

/-- The element of a position is shown there. -/
theorem Pos.Holds.shows {s : State} {p : Pos} {e : Element} (h : p.Holds s) (he : p.element = some e) : s.Shows e := by
  cases p <;> simp only [Pos.element, Option.some.injEq, reduceCtorEq] at he <;> subst he
  case write => exact h
  all_goals exact h.1

/-- In PROGRAM_IMAGE the image and its page passed the argument check, at whatever position. -/
theorem Pos.Holds.pageOpen {s : State} {p : Pos} (h : p.Holds s) (hs : s.status.step = .programImage) : s.PageOpen := by
  cases p with
  | idle | done | error => exact h.elim
  | call c =>
    cases c with
    | writePage => exact h.2
    | connect | getVersion | getId | globalErase => exact absurd (hs.symm.trans h) (by decide)
  | image i base => exact absurd (hs.symm.trans h.1) (by decide)
  | settle => exact absurd (hs.symm.trans h) (by decide)
  | write e b rest => exact State.Shows.pageOpen h hs
  | read n got => exact h.1.pageOpen hs
  | poll e => exact h.1.pageOpen hs
  | pollWait e => exact h.1.pageOpen hs
  | echo e => exact h.1.pageOpen hs

theorem Pos.Holds.engineState {s : State} {p : Pos} (h : p.Holds s) : p.engineState = .busy := by
  cases p with
  | idle | done | error => exact h.elim
  | _ => rfl

/-- A running engine may stand at a position at which the invariant's demands are met. -/
theorem State.Running.setPos_inv {s : State} (h : s.Running) {p : Pos} (hp : p.Holds s) : (s.setPos p).Inv where
  imagesCanonical := h.imagesCanonical
  imagesWithin := h.imagesWithin
  errorIff := by simp [h.busy, h.noError]
  posState := h.busy.trans hp.engineState.symm
  opHasBody := fun _ => h.opHasBody
  portMatches := fun r hr => absurd (h.portFree.symm.trans hr) (by simp)
  resultsZero := h.resultsZero
  rbufShort := h.rbufShort
  readLength := fun n got hq => by cases (hq : p = _); exact hp.2
  blocksNonempty := h.blocksNonempty
  hsAckres := h.hsAckres
  hsAtPosition := ⟨fun e hq => by rcases hq with hq | hq <;> cases (hq : p = _) <;> exact hp.2,
    fun e hq => by cases (hq : p = _); exact hp.2⟩
  pollsBounded := fun n hn =>
    ⟨h.pollsBounded n hn, fun r e hr => absurd (h.portFree.symm.trans hr) (by simp)⟩
  pageBounded := h.pageBounded
  elementShown := fun e he => ⟨(hp.shows he).step, (hp.shows he).phase⟩
  stepShown := ⟨fun hq => by cases (hq : p = _); exact hp.1,
    fun c hc hq => by
      cases (hq : p = _)
      cases c with
      | writePage => exact absurd rfl hc
      | connect | getVersion | getId | globalErase => exact hp,
    fun i b hq => by cases (hq : p = _); exact hp.1,
    fun hq => by cases (hq : p = _); exact hp⟩
  argsHold := ⟨fun _ => h.flashFits, fun i b hq => by cases (hq : p = _); exact hp.2, fun _ => hp.pageOpen⟩
  addrShown := fun e he => (hp.shows he).addr

/-- Outside BUSY the invariant asks nothing of the position but that it is STATE's, and no transfer is outstanding. -/
theorem State.Data.resting_inv {s : State} (h : s.Data) (hb : s.status.state ≠ .busy)
    (hpos : s.status.state = s.seq.pos.engineState) (herr : s.status.state = .error ↔ s.status.err ≠ .none)
    (hf : s.inFlight = none) : s.Inv := by
  have hq : s.seq.pos.engineState ≠ .busy := hpos ▸ hb
  exact {
    h with
    errorIff := herr
    posState := hpos
    opHasBody := fun hs => absurd hs hb
    portMatches := fun r hr => absurd (hf.symm.trans hr) (by simp)
    readLength := fun n got hp => absurd rfl (hp ▸ hq)
    hsAtPosition := ⟨fun e hp => (by rcases hp with hp | hp <;> exact absurd rfl (hp ▸ hq)),
      fun e hp => absurd rfl (hp ▸ hq)⟩
    pollsBounded := fun n hn => ⟨h.pollsBounded n hn, fun r e hr => absurd (hf.symm.trans hr) (by simp)⟩
    elementShown := fun e hp => absurd (Pos.engineState_of_element hp) hq
    stepShown := ⟨fun hp => absurd rfl (hp ▸ hq), fun c _ hp => absurd rfl (hp ▸ hq), fun i b hp => absurd rfl (hp ▸ hq),
      fun hp => absurd rfl (hp ▸ hq)⟩
    argsHold := ⟨fun hs => absurd hs hb, fun i b hp => absurd rfl (hp ▸ hq), fun hs => absurd hs hb⟩
    addrShown := fun e hp => absurd (Pos.engineState_of_element hp) hq }

/-! ### The two ways out of BUSY -/

/-- Whatever the engine was doing, an error leaves a state that meets the invariant (R32, R258). -/
theorem State.Data.raise_inv {s : State} (h : s.Data) (hf : s.inFlight = none) {e : ErrCode} (he : e ≠ .none)
    (b : Option Byte) : (s.raise e b).Inv :=
  State.Data.resting_inv (s := s.raise e b) { h with } (by simp) rfl (by simp [he]) hf

theorem State.Running.complete_inv {s : State} (h : s.Running) : s.complete.Inv :=
  State.Data.resting_inv (s := s.complete) { h with } (by simp) rfl (by simp [h.noError]) h.portFree

theorem State.Running.closeLink_inv {s : State} (h : s.Running) : s.closeLink.Inv :=
  State.Running.complete_inv { h with }

/-! ### Beginning an element and a command -/

/-- The Write of an element that is not empty begins, in the element's phase (R112, R178). -/
theorem State.Running.beginWrite_inv {s : State} (h : s.Running) {e : Element} {bs : List Byte} (hbs : bs ≠ [])
    (hstep : s.status.step = e.clientStep s.seq.cmd)
    (haddr : e ≠ .handshake → s.seq.cmd = .writeMemory → s.addr = pageAddress s.seq.imgBase s.page.toNat)
    (hopen : s.status.step = .programImage → s.PageOpen) : (s.beginWrite e bs).Inv := by
  cases bs with
  | nil => exact absurd rfl hbs
  | cons b rest =>
    have hw : State.Running (s.setPhase e.phase) := { h with }
    exact hw.setPos_inv (p := .write e b rest) ⟨hstep, rfl, haddr, hopen⟩

/-- A command begins in its own step with blocks that are not empty; a page's address must be in ADDR (R171). -/
theorem State.Running.beginCommand_inv {s : State} (h : s.Running) {c : WireCmd} {blocks : List (List Byte)}
    (hstep : s.status.step = c.clientStep) (hblocks : ∀ b ∈ blocks, b ≠ [])
    (haddr : c = .writeMemory → s.addr = pageAddress s.seq.imgBase s.page.toNat)
    (hopen : s.status.step = .programImage → s.PageOpen) : (s.beginCommand c blocks).Inv := by
  have hc : State.Running { s with seq := { s.seq with cmd := c, blocks := blocks } } :=
    { h with blocksNonempty := hblocks }
  exact hc.beginWrite_inv (by simp) hstep (fun _ => haddr) hopen

theorem State.Running.beginVersion_inv {s : State} (h : s.Running) : s.beginVersion.Inv := by
  have hv : State.Running { (s.setStep .getVersion) with version := ⟨0#8, false⟩ } :=
    { h with resultsZero := ⟨fun _ => rfl, h.resultsZero.2⟩ }
  exact hv.beginCommand_inv rfl (by simp) (by simp) (by simp)

theorem State.Running.beginId_inv {s : State} (h : s.Running) : s.beginId.Inv := by
  have hi : State.Running { (s.setStep .getId) with chipId := ⟨0#16, false⟩ } :=
    { h with resultsZero := ⟨h.resultsZero.1, fun _ => rfl⟩ }
  exact hi.beginCommand_inv rfl (by simp) (by simp) (by simp)

theorem State.Running.beginErase_inv {s : State} (h : s.Running) : s.beginErase.Inv := by
  have he : State.Running (s.setStep .globalErase) := { h with }
  exact he.beginCommand_inv rfl (by decide) (by simp) (by simp)

/-! ### The page loop -/

theorem checksummedBlock_ne_nil (bs : List Byte) : checksummedBlock bs ≠ [] := by simp [checksummedBlock]

/-- A page of the image begins, or the engine stands in front of it (log entry 9). -/
theorem State.Running.beginPage_inv {s : State} (h : s.Running) (hp : s.InPages) : s.beginPage.Inv := by
  obtain ⟨hstep, hopen⟩ := hp
  rcases s.beginPage_cases with ⟨d, -, e⟩ | ⟨-, e⟩ <;> rw [e]
  · have ha : State.Running { s with addr := pageAddress s.seq.imgBase s.page.toNat } := { h with }
    exact ha.beginCommand_inv hstep (by simp [addressBlock, checksummedBlock_ne_nil]) (fun _ => rfl) (fun _ => hopen)
  · exact h.setPos_inv (p := .call .writePage) ⟨hstep, hopen⟩

theorem State.Running.openImage {s : State} (h : s.Running) (i : ImageSel) (base : Word) :
    (s.openImage i base).Running :=
  { h with pageBounded := Nat.zero_le _ }

theorem State.morePages_iff (s : State) :
    s.morePages = true ↔ s.page.toNat < npages (s.imageLen s.status.curImg).toNat := by simp [State.morePages]

theorem State.Running.beginApplication_inv {s : State} (h : s.Running) (hf : s.inFlashRun = true) :
    s.beginApplication.Inv := by
  have ht := h.openImage .application appAddress
  unfold State.beginApplication
  dsimp only
  split_ifs with hmore
  · exact ht.beginPage_inv ⟨rfl, (h.flashFits hf).2, (State.morePages_iff _).mp hmore⟩
  · exact ht.closeLink_inv

theorem State.Running.imageDone_inv {s : State} (h : s.Running) : s.imageDone.Inv := by
  unfold State.imageDone
  split_ifs with hf
  · cases s.status.curImg with
    | bootstub => exact h.beginApplication_inv hf
    | application => exact h.closeLink_inv
  · exact h.complete_inv

/-- The page loop goes on with an image that passed the argument check (R195, R221). -/
theorem State.Running.nextPage_inv {s : State} (h : s.Running) (hstep : s.status.step = .programImage)
    (hfits : fits s.params.imgMaxLen (s.imageLen s.status.curImg).toNat s.seq.imgBase.toNat = true) : s.nextPage.Inv := by
  unfold State.nextPage
  split_ifs with hmore
  · exact h.beginPage_inv ⟨hstep, hfits, s.morePages_iff.mp hmore⟩
  · exact h.imageDone_inv

theorem State.Running.beginImage_inv {s : State} (h : s.Running) {i : ImageSel} {base : Word}
    (hfits : fits s.params.imgMaxLen (s.imageLen i).toNat base.toNat = true) : (s.beginImage i base).Inv :=
  (h.openImage i base).nextPage_inv rfl hfits

/-- An image that fits and is not empty is no longer than its buffer. -/
theorem le_of_fits {maxLen len base : Nat} (h : fits maxLen len base = true) (hlen : len ≠ 0) : len ≤ maxLen := by
  simp only [fits, hlen, if_false, Bool.and_eq_true, decide_eq_true_eq] at h
  exact h.1

/-- PAGE is below the page count of a full buffer while a page of an image is open (R39). -/
theorem State.PageOpen.page_lt {s : State} (h : s.PageOpen) : s.page.toNat < npages s.params.imgMaxLen := by
  obtain ⟨hfits, hlt⟩ := h
  have hlen : (s.imageLen s.status.curImg).toNat ≠ 0 := fun h0 => by simp [h0, npages] at hlt
  have hle := le_of_fits hfits hlen
  unfold npages at *
  omega

theorem State.Running.pageDone_inv {s : State} (h : s.Running) (hp : s.InPages) : s.pageDone.Inv := by
  have hlt := hp.2.page_lt
  have hadd : (s.page + 1#32).toNat ≤ s.page.toNat + 1 := by
    rw [BitVec.toNat_add]
    exact Nat.mod_le _ _
  have hn : State.Running (State.emit { s with page := s.page + 1#32 }
      (.pageWritten s.status.curImg s.page (pageAddress s.seq.imgBase s.page.toNat))) :=
    { h with pageBounded := hadd.trans hlt }
  exact hn.nextPage_inv hp.1 hp.2.1

/-! ### The end of a client operation -/

theorem State.Running.connectDone_inv {s : State} (h : s.Running) : s.connectDone.Inv := by
  unfold State.connectDone
  dsimp only
  split_ifs
  · have hs : State.Running ((s.setConnected true).setStep .settle) := { h with }
    exact hs.setPos_inv (p := .settle) rfl
  · exact State.Running.complete_inv { h with }

theorem State.Running.versionDone_inv {s : State} (h : s.Running) : s.versionDone.Inv := by
  have hv (v : Byte) : State.Running (State.emit { s with version := ⟨v, true⟩ } (.version v)) :=
    { h with resultsZero := ⟨by simp, h.resultsZero.2⟩ }
  unfold State.versionDone
  dsimp only
  split_ifs
  · exact (hv _).beginId_inv
  · exact (hv _).complete_inv

theorem State.Running.idDone_inv {s : State} (h : s.Running) : s.idDone.Inv := by
  have hi (id : Half) : State.Running (State.emit { s with chipId := ⟨id, true⟩ } (.chipId id)) :=
    { h with resultsZero := ⟨h.resultsZero.1, by simp⟩ }
  unfold State.idDone
  dsimp only
  split_ifs
  · exact (hi _).beginErase_inv
  · exact (hi _).complete_inv
  · exact h.raise_inv h.portFree (by decide) _

theorem State.Running.eraseDone_inv {s : State} (h : s.Running) : s.eraseDone.Inv := by
  have he : State.Running (s.emit .erased) := { h with }
  unfold State.eraseDone
  dsimp only
  split_ifs with hf
  · exact he.beginImage_inv (h.flashFits hf).1
  · exact he.complete_inv

/-- `send_command` returns from the ack wait of an element of its own (R170). -/
theorem State.Running.commandDone_inv {s : State} {e : Element} (h : s.Running) (hs : s.Shows e) (he : e ≠ .handshake) :
    s.commandDone.Inv := by
  unfold State.commandDone
  split
  next => exact h.versionDone_inv
  next => exact h.idDone_inv
  next => exact h.eraseDone_inv
  next hc =>
    have hstep : s.status.step = .programImage := by
      rw [hs.step, Element.clientStep_of_ne he, hc]
      rfl
    exact h.pageDone_inv ⟨hstep, hs.pageOpen hstep⟩

/-! ### Inside send_command -/

/-- The next element of the same command begins. -/
theorem State.Running.nextWrite_inv {s : State} {e f : Element} (h : s.Running) (hs : s.Shows e) (he : e ≠ .handshake)
    (hf : f ≠ .handshake) {bs : List Byte} (hbs : bs ≠ []) : (s.beginWrite f bs).Inv := by
  apply h.beginWrite_inv hbs
  · rw [hs.step, Element.clientStep_of_ne he, Element.clientStep_of_ne hf]
  · exact fun _ => hs.addr he
  · exact hs.pageOpen

theorem State.Running.afterBlock_inv {s : State} {e f : Element} (h : s.Running) (hs : s.Shows e) (he : e ≠ .handshake)
    (hf : f ≠ .handshake) : (s.afterBlock f).Inv := by
  have hblocks := h.blocksNonempty
  unfold State.afterBlock
  split
  next b rest hb =>
    rw [hb] at hblocks
    have hr : State.Running { s with seq := { s.seq with blocks := rest } } :=
      { h with blocksNonempty := fun x hx => hblocks x (.tail _ hx) }
    exact hr.nextWrite_inv (e := e) { hs with } he hf (hblocks b (.head _))
  next =>
    split_ifs
    · exact h.commandDone_inv hs he
    · have hp : State.Running (s.setPhase .resp) := { h with }
      refine hp.setPos_inv (p := .read s.seq.cmd.responseLength []) ⟨⟨?_, rfl, fun _ => hs.addr he, hs.pageOpen⟩, rfl⟩
      exact hs.step.trans (Element.clientStep_of_ne he _)

theorem State.Running.ackTrue_inv {s : State} {e : Element} (h : s.Running) (hs : s.Shows e) : (s.ackTrue e).Inv := by
  cases e with
  | handshake => exact h.connectDone_inv
  | sync => exact h.nextWrite_inv (f := .cmd) hs (by decide) (by decide) (List.cons_ne_nil _ _)
  | cmd | block0 | block1 => exact h.afterBlock_inv hs (by decide) (by decide)
  | resp => exact h.commandDone_inv hs (by decide)

theorem State.Data.ackFalse_inv {s : State} (h : s.Data) (hf : s.inFlight = none) (e : Element) : (s.ackFalse e).Inv := by
  cases e <;> exact h.raise_inv hf (by decide) _

theorem State.Running.ackReturn_inv {s : State} {e : Element} (h : s.Running) (hs : s.Shows e) : (s.ackReturn e).Inv := by
  rcases s.ackReturn_cases e with ⟨-, heq⟩ | ⟨-, heq⟩ <;> rw [heq]
  · exact h.ackTrue_inv hs
  · exact h.ackFalse_inv h.portFree e

/-! ### The answer to a transfer -/

theorem State.Running.enterAckWait_inv {s : State} {e : Element} (h : s.Running) (hs : s.Shows e) :
    (s.enterAckWait e).Inv := by
  have hw : State.Running { (s.setHs .syncSent) with pcnt := 0, lastRx := { s.lastRx with valid := false } } :=
    { h with
      hsAckres := by simp
      pollsBounded := fun _ _ => Nat.zero_le _ }
  exact hw.setPos_inv (p := .poll e) ⟨{ hs with }, rfl⟩

theorem State.Running.resolve_inv {s : State} {e : Element} (h : s.Running) (hs : s.Shows e) (r : AckState) :
    (s.resolve e r).Inv := by
  cases r with
  | ack =>
    have hr : State.Running { (s.setHs .acked) with ackres := some .ack } :=
      { h with hsAckres := by simp }
    exact hr.setPos_inv (p := .echo e) ⟨{ hs with }, .inl rfl⟩
  | nack =>
    have hr : State.Running { (s.setHs .nacked) with ackres := some .nack } :=
      { h with hsAckres := by simp }
    exact hr.setPos_inv (p := .echo e) ⟨{ hs with }, .inr rfl⟩

/-- A poll that the limit allows is counted, and resolves or waits for the next (R151, R154). -/
theorem State.Running.pollByte_inv {s : State} {e : Element} (h : s.Running) (hs : s.Shows e)
    (hhs : s.status.hs = .syncSent) (hpolls : ∀ n, pollBound s.params.ackPollLimit = some n → s.pcnt < n) (b : Byte) :
    (s.pollByte e b).Inv := by
  have hc : State.Running (s.countPoll b) := { h with pollsBounded := hpolls }
  have hsc : State.Shows (s.countPoll b) e := { hs with }
  rcases s.pollByte_cases e b with ⟨-, heq⟩ | ⟨-, heq⟩ | ⟨-, -, heq⟩ <;> rw [heq]
  · exact hc.resolve_inv hsc _
  · exact hc.resolve_inv hsc _
  · exact hc.setPos_inv (p := .pollWait e) ⟨hsc, hhs⟩

theorem WireCmd.responseLength_le (c : WireCmd) : c.responseLength ≤ 3 := by cases c <;> decide

/-- What the position makes of the byte that a transfer returned. -/
theorem State.Running.gotByte_inv {s : State} (h : s.Running) (hp : s.seq.pos.Holds s)
    (hpolls : ∀ e, s.seq.pos = .poll e → ∀ n, pollBound s.params.ackPollLimit = some n → s.pcnt < n) (b : Byte) :
    (s.gotByte b).Inv := by
  have hstay : s.Inv := h.setPos_inv hp
  unfold State.gotByte
  split
  next e _ c rest hq => exact h.setPos_inv (p := .write e c rest) (hp.shows (by rw [hq]; rfl))
  next e _ hq => exact h.enterAckWait_inv (hp.shows (by rw [hq]; rfl))
  next n got hq =>
    rw [hq] at hp
    obtain ⟨hs, hlen⟩ := hp
    exact h.setPos_inv (p := .read n (got ++ [b])) ⟨hs, by simp; omega⟩
  next got hq =>
    rw [hq] at hp
    obtain ⟨hs, hlen⟩ := hp
    have hle := s.seq.cmd.responseLength_le
    have hr : State.Running { s with rbuf := (got ++ [b]).drop 1 } := { h with rbufShort := by simp; omega }
    exact hr.enterAckWait_inv { hs with }
  next e hq =>
    have hpoll := hpolls e hq
    rw [hq] at hp
    exact h.pollByte_inv hp.1 hp.2 hpoll b
  next e hq => exact h.ackReturn_inv (hp.shows (by rw [hq]; rfl))
  all_goals exact hstay

/-- The link's answer keeps the invariant (R110, R114, R116). -/
theorem State.Inv.receive {s : State} (h : s.Inv) (a : LinkAnswer) : (s.receive a).Inv := by
  cases hf : s.inFlight with
  | none => rwa [State.receive_idle _ _ hf]
  | some r =>
    cases a with
    | xerr =>
      rw [State.receive_xerr _ _ hf]
      exact State.Data.raise_inv (s := s.settleTransfer r _) { h.data with } rfl (by decide) _
    | byte b =>
      rw [State.receive_byte _ _ _ hf]
      have hbusy : s.status.state = .busy := h.posState.trans (Pos.engineState_of_request (h.portMatches r hf))
      have hsettled : (s.settleTransfer r (some (.byte b))).Inv :=
        { h with
          portMatches := fun _ hr => nomatch hr
          pollsBounded := fun n hn => ⟨(h.pollsBounded n hn).1, fun _ _ hr => nomatch hr⟩ }
      exact (hsettled.running hbusy rfl).gotByte_inv (hsettled.holds hbusy)
        (fun e hp n hn => (h.pollsBounded n hn).2 r e hf hp) b

/-! ### The engine's own move -/

/-- The request of the position is put on the port; a poll must be one the limit allows (R111, R115, R154). -/
theorem State.Inv.issue {s : State} (h : s.Inv) {tx : Byte} {last : Bool}
    (hr : s.seq.pos.request s.params = some ⟨tx, last⟩)
    (hpolls : ∀ e, s.seq.pos = .poll e → ∀ n, pollBound s.params.ackPollLimit = some n → s.pcnt < n) :
    (s.issue tx last).Inv :=
  { h with
    portMatches := fun _ hq => hr.trans hq
    pollsBounded := fun n hn => ⟨(h.pollsBounded n hn).1, fun _ e _ hp => hpolls e hp n hn⟩ }

theorem State.pcnt_lt_of_not_limitReached {s : State} (hl : s.limitReached = false) {n : Nat}
    (hn : pollBound s.params.ackPollLimit = some n) (hle : s.pcnt ≤ n) : s.pcnt < n := by
  unfold State.limitReached at hl
  cases hp : s.params.ackPollLimit with
  | unbounded => simp [hp, pollBound] at hn
  | polls m =>
    simp only [hp, pollBound, Option.some.injEq, beq_eq_false_iff_ne] at hl hn
    omega

theorem State.Inv.pollIteration {s : State} {e : Element} (h : s.Inv) (hp : s.seq.pos = .poll e)
    (hf : s.inFlight = none) : s.pollIteration.Inv := by
  rcases s.pollIteration_cases with ⟨-, heq⟩ | ⟨-, -, heq⟩ | ⟨-, hl, heq⟩ <;> rw [heq]
  · exact State.Data.raise_inv (s := s.setCancel false) { h.data with } hf (by decide) _
  · exact h.data.raise_inv hf (by decide) _
  · exact h.issue (by rw [hp]; rfl) fun _ _ n hn => s.pcnt_lt_of_not_limitReached hl hn (h.data.pollsBounded n hn)

/-- A client operation begins, from the position in front of it (R190 to R194). -/
theorem State.Running.beginCall_inv {s t : State} {c : ClientCall} (h : s.Running) (hp : (Pos.call c).Holds s)
    (ht : exec c.instr (s.beforeCall c) = .next t) : t.Inv := by
  cases c with
  | connect =>
    cases ht
    have hc : State.Running (s.setStep .connect) := { h with }
    exact hc.beginWrite_inv (List.cons_ne_nil _ _) rfl (by simp) (by simp)
  | getVersion => cases ht; exact h.beginVersion_inv
  | getId => cases ht; exact h.beginId_inv
  | globalErase => cases ht; exact h.beginErase_inv
  | writePage =>
    have hb : s.beginPage = t := by
      change execWriteMemory s = .next t at ht
      rw [State.beginPage, ht]
    exact hb ▸ h.beginPage_inv hp

theorem State.Inv.moveAt {s t : State} (h : s.Inv) (hb : s.status.state = .busy) (hf : s.inFlight = none)
    (ht : s.moveAt.run = .next t) : t.Inv := by
  have hr := h.running hb hf
  have hp := h.holds hb
  unfold State.moveAt at ht
  cases hq : s.seq.pos with
  | idle | done | error => rw [hq] at hp; exact hp.elim
  | call c => rw [hq] at hp ht; exact hr.beginCall_inv hp ht
  | image i base => rw [hq] at hp ht; cases ht; exact hr.beginImage_inv hp.2
  | write e b rest =>
    rw [hq] at ht; cases ht
    exact h.issue (by rw [hq]; rfl) fun e he => nomatch hq.symm.trans he
  | read more got =>
    rw [hq] at ht; cases ht
    exact h.issue (by rw [hq]; rfl) fun e he => nomatch hq.symm.trans he
  | echo e =>
    rw [hq] at ht; cases ht
    exact h.issue (by rw [hq]; rfl) fun e he => nomatch hq.symm.trans he
  | poll e => rw [hq] at ht; cases ht; exact h.pollIteration hq hf
  | pollWait e => rw [hq] at hp ht; cases ht; exact hr.setPos_inv (p := .poll e) hp
  | settle => rw [hq] at ht; cases ht; exact hr.beginVersion_inv

/-! ### The host -/

/-- Outside BUSY no transfer is outstanding. -/
theorem State.Inv.portFree {s : State} (h : s.Inv) (hb : s.status.state ≠ .busy) : s.inFlight = none := by
  rw [Option.eq_none_iff_forall_ne_some]
  exact fun r hr => hb (h.posState.trans (Pos.engineState_of_request (h.portMatches r hr)))

/-- Outside BUSY, an access that changes arguments or image bytes only, and keeps the images as they must be, keeps the
invariant. -/
theorem State.Inv.of_data {s t : State} (h : s.Inv) (hb : s.status.state ≠ .busy) (ht : t.Data)
    (hstatus : t.status = s.status) (hseq : t.seq = s.seq) (hport : t.inFlight = s.inFlight) : t.Inv :=
  ht.resting_inv (by rwa [hstatus]) (by rw [hstatus, hseq]; exact h.posState) (by rw [hstatus]; exact h.errorIff)
    (hport.trans (h.portFree hb))

theorem State.Inv.setOvr {s : State} (h : s.Inv) : s.setOvr.Inv := { h with }

theorem State.Inv.setCancel {s : State} (h : s.Inv) (c : Bool) : (s.setCancel c).Inv := { h with }

theorem State.Inv.logRead {s : State} (h : s.Inv) (n : BitVec 4) : (s.logRead n).Inv := { h with }

theorem State.Inv.unlessBusy {s t : State} (h : s.Inv) (ht : s.status.state ≠ .busy → t.Inv) : (s.unlessBusy t).Inv := by
  unfold State.unlessBusy State.isBusy
  split_ifs with hb
  · exact h.setOvr
  · exact ht (by simpa using hb)

theorem State.Inv.writeCancel {s : State} (h : s.Inv) (v : Word) : (s.writeCancel v).Inv := by
  unfold State.writeCancel
  split_ifs
  · exact h.setCancel true
  · exact h

theorem State.Inv.regWrite {s : State} (h : s.Inv) (n : BitVec 4) (v : Word) : (s.regWrite n v).Inv := by
  unfold State.regWrite
  split_ifs
  · exact h.writeCancel v
  -- BASE, IMGSEL, LEN0 and LEN1
  iterate 4 · exact h.unlessBusy fun hb => h.of_data hb { h.data with } rfl rfl rfl
  · exact h

/-- A load below IMG_MAX_LEN keeps both images in canonical form and within the buffers (R61, R62). -/
theorem State.Data.loadByte {s : State} (h : s.Data) {k : Nat} (hk : k < s.params.imgMaxLen) (i : ImageSel) (b : Byte) :
    (s.loadByte i k b).Data where
  imagesCanonical := s.loadByte_images_wf i k b h.imagesCanonical.1 h.imagesCanonical.2
  imagesWithin := fun j n x hx => by
    rw [State.read_loadByte] at hx
    rw [State.loadByte_params]
    split_ifs at hx with hjn
    · exact hjn.2 ▸ hk
    · exact h.imagesWithin j n x hx
  resultsZero := by simpa using h.resultsZero
  rbufShort := by simpa using h.rbufShort
  blocksNonempty := by simpa using h.blocksNonempty
  hsAckres := by simpa using h.hsAckres
  pollsBounded := by simpa using h.pollsBounded
  pageBounded := by simpa using h.pageBounded

theorem State.Inv.imgLoad {s : State} (h : s.Inv) (i : ImageSel) (k : Nat) (b : Byte) : (s.imgLoad i k b).Inv := by
  refine h.unlessBusy fun hb => ?_
  split_ifs with hk
  · exact h.of_data hb (h.data.loadByte hk i b) (by simp) (by simp) (by simp)
  · exact h

/-! ### The host ops -/

/-- The body of an op whose arguments passed the check may begin (R220, R221). -/
theorem HostOp.body_holds {s : State} {op : HostOp} (hc : op.checkArgs s = true) (hs : s.status.step = .none) :
    (op.body s).Holds s := by
  cases op with
  | programImage => exact ⟨hs, hc⟩
  | connect | getVersion | getId | globalErase | flashRun => exact hs

theorem HostOp.eq_flashRun {op : HostOp} (h : op.code = HostOp.flashRun.code) : op = .flashRun := by
  cases op with
  | flashRun => rfl
  | connect | getVersion | getId | globalErase | programImage => exact absurd h (by decide)

theorem State.flashFits_iff {s : State} : HostOp.flashRun.checkArgs s = true ↔ s.FlashFits := by
  simp [HostOp.checkArgs, State.FlashFits]

/-- The acceptance step of an op with a body: BUSY at its start, or BAD_REQUEST (R220, R221). -/
theorem State.Data.startOp_inv {s : State} (h : s.Data) (hf : s.inFlight = none) (herr : s.status.err = .none)
    (hstep : s.status.step = .none) {op : HostOp} (hop : s.status.curOp = op.code) : (s.startOp op).Inv := by
  rcases s.startOp_cases op with ⟨hc, heq⟩ | ⟨-, heq⟩ <;> rw [heq]
  · have hr : State.Running (s.setState .busy) :=
      { h with
        busy := rfl
        noError := herr
        opHasBody := ⟨op, hop⟩
        flashFits := fun hfr => by
          obtain rfl := HostOp.eq_flashRun (hop.symm.trans (eq_of_beq hfr))
          exact State.flashFits_iff.mp hc
        portFree := hf }
    exact hr.setPos_inv (p := op.body s) (HostOp.body_holds (s := s.setState .busy) (op := op) hc hstep)
  · exact h.raise_inv hf (by decide) _

theorem State.Inv.ctrlWrite {s t : State} (h : s.Inv) {v : Word} (ht : exec (decodeCtrl v) s = .next t) : t.Inv := by
  rcases decodeCtrl_exec v s t ht with ⟨-, rfl⟩ | ⟨-, rfl⟩ | ⟨hacc, code, hrun⟩
  · exact h.setOvr
  · exact h
  · have hb : s.status.state ≠ .busy := by rcases hacc with hs | hs <;> simp [hs]
    have he : s.status.state ≠ .error := by rcases hacc with hs | hs <;> simp [hs]
    have hd : (s.acceptFields code).Data := { h.data with }
    rcases hrun with ⟨op, hop, rfl⟩ | rfl
    · exact hd.startOp_inv (h.portFree hb) (h.noError he) rfl hop
    · exact hd.raise_inv (h.portFree hb) (by decide) _

/-! ### Reset and the step -/

/-- Whatever a reset leaves on the record, the state it ends in meets the invariant (R51). -/
theorem State.applyReset_inv (s : State) : s.applyReset.Inv := by
  refine State.Data.resting_inv ?_ (fun hb => nomatch hb) rfl (by simp [State.applyReset, State.reset, Status.reset]) rfl
  exact {
    imagesCanonical := State.reset_images_wf
    imagesWithin := fun i k b hb => by cases i <;> cases hb
    resultsZero := ⟨fun _ => rfl, fun _ => rfl⟩
    rbufShort := Nat.zero_le _
    blocksNonempty := fun _ hb => nomatch hb
    hsAckres := ⟨fun hh => (nomatch hh), fun hh => (nomatch hh), fun _ => rfl⟩
    pollsBounded := fun _ _ => Nat.zero_le _
    pageBounded := Nat.zero_le _ }

/-- Settles O56: a reset of the reset state changes nothing, and every reset meets the invariant. -/
theorem resetMeetsInv : Obligations.ResetMeetsInv := State.reset.applyReset_inv

/-- Settles O55, by the case analysis of a step: each move keeps the invariant. -/
theorem stepKeepsInv : Obligations.StepKeepsInv := by
  intro s t h hstep
  obtain ⟨a, u, rfl, hu⟩ := step_cases s t hstep
  have hi : State.Inv { s with agenda := a } := { h with }
  rcases hu with ⟨-, rfl⟩ | ⟨n, v, -, -, rfl⟩ | ⟨v, -, hv⟩ | ⟨n, -, rfl⟩ | ⟨i, k, b, -, rfl⟩ | ⟨x, rfl⟩ | ⟨-, rfl⟩
    | ⟨hb, hf, hm⟩
  · exact State.applyReset_inv _
  · exact hi.regWrite n v
  · exact hi.ctrlWrite hv
  · exact hi.logRead n
  · exact hi.imgLoad i k b
  · exact hi.receive x
  · exact hi
  · exact hi.moveAt hb hf hm

end Sys2Proof.Machine
end

section
/-! PROOFS. O14, O15, O16, O18, O19, O31 and O54: the host's registers. First the fields of a register word, then the step
that a host access or a reset makes. -/

namespace Sys2Proof.Machine

/-! ### The fields of a register word (R11) -/

theorem getLsbD_fieldAt {w : Nat} (v : BitVec w) (lo i : Nat) :
    (fieldAt v lo).getLsbD i = (decide (i < 32) && decide (lo ≤ i) && v.getLsbD (i - lo)) := by
  rw [fieldAt, BitVec.getLsbD_shiftLeft, BitVec.getLsbD_setWidth]
  by_cases h : i < 32
  · have hs : i - lo < 32 := by omega
    simp only [h, hs, ← Nat.not_lt, decide_not, decide_true, Bool.true_and]
  · simp [h]

/-- Reading a field at its own place gives its value back. -/
theorem extract_fieldAt_same {w : Nat} (v : BitVec w) {lo : Nat} (h : lo + w ≤ 32) :
    (fieldAt v lo).extractLsb' lo w = v := by
  apply BitVec.eq_of_getLsbD_eq
  intro i hi
  have hlo : lo + i < 32 := by omega
  rw [BitVec.getLsbD_extractLsb', getLsbD_fieldAt]
  simp only [hi, hlo, Nat.le_add_right, Nat.add_sub_cancel_left, decide_true, Bool.true_and]

/-- A field is 0 outside its own bits. -/
theorem getLsbD_fieldAt_other {w : Nat} (v : BitVec w) {lo i : Nat} (h : i < lo ∨ lo + w ≤ i) :
    (fieldAt v lo).getLsbD i = false := by
  rw [getLsbD_fieldAt]
  rcases h with h | h
  · simp [Nat.not_le.mpr h]
  · rw [BitVec.getLsbD_of_ge v (i - lo) (by omega), Bool.and_false]

/-- Reading bits that are not a field's gives 0 for that field. -/
theorem extract_fieldAt_other {w : Nat} (v : BitVec w) {lo lo' w' : Nat} (h : lo' + w' ≤ lo ∨ lo + w ≤ lo') :
    (fieldAt v lo).extractLsb' lo' w' = 0#w' := by
  apply BitVec.eq_of_getLsbD_eq
  intro i hi
  rw [BitVec.getLsbD_extractLsb', getLsbD_fieldAt_other v (by omega), Bool.and_false, BitVec.getLsbD_zero]

theorem getLsbD_fieldAt_bit (b : Bool) {lo : Nat} (h : lo < 32) : (fieldAt (BitVec.ofBool b) lo).getLsbD lo = b := by
  simp only [getLsbD_fieldAt, h, BitVec.getLsbD_ofBool, Nat.le_refl, Nat.sub_self, decide_true, Bool.true_and]

theorem VersionReg.word_fields (v : VersionReg) :
    v.word.extractLsb' 0 8 = v.ver ∧ v.word.getLsbD 8 = v.valid ∧ v.word.extractLsb' 9 23 = 0#23 := by
  simp (disch := decide) only [VersionReg.word, BitVec.extractLsb'_or, BitVec.getLsbD_or, extract_fieldAt_same,
    extract_fieldAt_other, getLsbD_fieldAt_bit, getLsbD_fieldAt_other, BitVec.or_zero, Bool.false_or, and_self]

theorem ChipIdReg.word_fields (c : ChipIdReg) :
    c.word.extractLsb' 0 16 = c.id ∧ c.word.getLsbD 16 = c.valid ∧ c.word.extractLsb' 17 15 = 0#15 := by
  simp (disch := decide) only [ChipIdReg.word, BitVec.extractLsb'_or, BitVec.getLsbD_or, extract_fieldAt_same,
    extract_fieldAt_other, getLsbD_fieldAt_bit, getLsbD_fieldAt_other, BitVec.or_zero, Bool.false_or, and_self]

theorem ErrInfoReg.word_fields (e : ErrInfoReg) :
    e.word.extractLsb' 0 8 = e.byte ∧ e.word.getLsbD 8 = e.byteValid ∧ e.word.extractLsb' 9 3 = e.phase.code
      ∧ e.word.extractLsb' 12 4 = e.step.code ∧ e.word.extractLsb' 16 1 = e.img.code
      ∧ e.word.extractLsb' 17 15 = 0#15 := by
  simp (disch := decide) only [ErrInfoReg.word, BitVec.extractLsb'_or, BitVec.getLsbD_or, extract_fieldAt_same,
    extract_fieldAt_other, getLsbD_fieldAt_bit, getLsbD_fieldAt_other, BitVec.or_zero, BitVec.zero_or, Bool.false_or,
    Bool.or_false, and_self]

/-- Settles O14: the fields of STATUS do not overlap, so each reads back at its own place. -/
theorem statusLayout : Obligations.StatusLayout := by
  refine ⟨fun t => ?_, rfl, rfl, rfl, rfl, rfl, rfl⟩
  simp (disch := decide) only [Status.word, BitVec.extractLsb'_or, BitVec.getLsbD_or, extract_fieldAt_same,
    extract_fieldAt_other, getLsbD_fieldAt_bit, getLsbD_fieldAt_other, BitVec.or_zero, BitVec.zero_or, Bool.false_or,
    Bool.or_false, and_self]

/-! ### The step of a host access -/

/-- The step makes the turn that stands first on the agenda. -/
theorem State.turnNext.step_eq {s u : State} {tn : Turn} (h : s.turnNext u tn) : step s = (u.takeTurn tn).run := by
  obtain ⟨rest, hag, rfl⟩ := h
  rw [step_run, State.fetch_cons s tn rest hag]

theorem State.turnNext.step_regWrite {s u : State} {n : BitVec 4} {v : Word} (h : s.turnNext u (.regWrite n v))
    (hn : n ≠ 0x0#4) : step s = .next (u.regWrite n v) := by
  rw [h.step_eq, State.takeTurn, State.hostWrite, if_neg hn, Fetched.run]

/-- Taking a turn off the agenda leaves STATUS alone. -/
theorem State.turnNext.status_eq {s u : State} {tn : Turn} (h : s.turnNext u tn) : u.status = s.status := by
  obtain ⟨rest, -, rfl⟩ := h
  rfl

theorem State.unlessBusy_of_ne {s t : State} (h : s.status.state ≠ .busy) : s.unlessBusy t = t := by
  simp [State.unlessBusy, State.isBusy, h]

/-- An index from `m` on is none of the indices below `m`. -/
theorem ne_of_index_ge {m n : BitVec 4} (h : BitVec.ule m n = true) {k : BitVec 4} (hk : BitVec.ult k m = true) :
    n ≠ k := by
  rintro rfl
  simp only [BitVec.ule, BitVec.ult, decide_eq_true_eq] at h hk
  omega

/-- Indices 0xD to 0xF are reserved and read 0 (R44). -/
theorem State.regRead_reserved (s : State) {n : BitVec 4} (hn : BitVec.ule 0xD#4 n = true) : s.regRead n = 0#32 := by
  simp (disch := decide) only [State.regRead, ne_of_index_ge hn, if_false]

theorem State.polls_toNat (s : State) : s.polls.toNat = min s.pcnt 0xFFFFFFFF := by
  rw [State.polls, BitVec.toNat_ofNat]
  omega

/-- Settles O15: the step only logs the read, and the value is the register's at the index read. -/
theorem registerReads : Obligations.RegisterReads := by
  intro s u n h
  have hstep : step s = .next (u.logRead n) := h.step_eq
  obtain ⟨rest, -, rfl⟩ := h
  refine ⟨_, hstep, ?_, ?_, ?_, ?_, ?_, ?_, ?_, ?_, ?_, ?_, ?_, ?_, ?_, State.regRead_reserved _⟩ <;> rintro rfl
  case refine_4 => cases s.imgsel <;> rfl
  case refine_8 => exact s.version.word_fields
  case refine_9 => exact s.chipId.word_fields
  case refine_11 => exact s.errInfo.word_fields
  case refine_13 => exact s.polls_toNat
  all_goals rfl

/-- Settles O16: outside BUSY each of the four writes is taken. -/
theorem registerWritesStore : Obligations.RegisterWritesStore := by
  intro s u n v h hb
  have hu : u.status.state ≠ .busy := by rwa [h.status_eq]
  refine ⟨?_, ?_, ?_, ?_⟩ <;> rintro rfl <;> rw [h.step_regWrite (by decide)]
  -- BASE, IMGSEL, LEN0 and LEN1: the taken write is the write's state, by evaluation of the index
  all_goals exact congrArg _ (State.unlessBusy_of_ne hu)

/-- Settles O18: the two conditions of a CANCEL write are those of the latch. -/
theorem cancelWriteLatches : Obligations.CancelWriteLatches := by
  intro s u v h
  have hstep : step s = .next (u.writeCancel v) := h.step_regWrite (by decide)
  rw [hstep, ← h.status_eq]
  constructor
  · intro hv hb
    rw [State.writeCancel, State.isBusy, hv, hb]
    rfl
  · intro hvb
    rw [State.writeCancel, if_neg]
    rcases hvb with hv | hb
    · simp only [hv, Bool.false_and, Bool.false_eq_true, not_false_eq_true]
    · simp [State.isBusy, hb]

/-- Settles O19: an index from 0x6 on is none that a write knows. -/
theorem readOnlyWritesIgnored : Obligations.ReadOnlyWritesIgnored := by
  intro s u n v h hn
  rw [h.step_regWrite (ne_of_index_ge hn (by decide))]
  simp (disch := decide) only [State.regWrite, ne_of_index_ge hn, if_false]

/-- Settles O31: index 0 is CTRL, and the turn's move is the decoded instruction. -/
theorem stepRunsCtrlWord : Obligations.StepRunsCtrlWord := fun _ _ _ h => h.step_eq

/-! ### Reset -/

/-- Abandoning the outstanding request keeps the wire trace (R281). -/
theorem State.abandon_trace (s : State) : s.abandon.trace = s.wireTrace := by
  unfold State.abandon State.wireTrace
  cases s.inFlight <;> rfl

theorem State.reset_words : State.reset.status.word = 0#32 ∧ State.reset.version.word = 0#32
    ∧ State.reset.chipId.word = 0#32 ∧ State.reset.errInfo.word = 0#32 := by
  decide

/-- Settles O54: every field of R51 is the reset state's, and the wire trace is the abandoned one. -/
theorem resetTakesEverything : Obligations.ResetTakesEverything := by
  intro s u h
  have hstep : step s = .next u.applyReset := h.step_eq
  obtain ⟨rest, -, rfl⟩ := h
  obtain ⟨hstatus, hversion, hchipId, herrInfo⟩ := State.reset_words
  refine ⟨_, hstep, rfl, rfl, rfl, rfl, hstatus, hversion, hchipId, rfl, herrInfo, rfl, rfl, rfl, rfl, rfl, rfl, rfl, rfl,
    rfl, ?_, State.abandon_trace _, rfl, rfl, rfl, rfl, rfl⟩
  intro i k
  cases i <;> rfl

end Sys2Proof.Machine
end

section
/-! PROOFS. O59: the latches OVR, HS and CANCEL_PEND. -/

namespace Sys2Proof.Machine

/-- From `s` to `t` OVR stays set if it is, HS does not return to Idle, and a pending cancel stays pending unless `spent`. -/
structure Latched (spent : Prop) (s t : State) : Prop where
  ovr : s.status.ovr = true → t.status.ovr = true
  hs : s.status.hs ≠ .idle → t.status.hs ≠ .idle
  cancel : s.status.cancelPend = true → t.status.cancelPend = true ∨ spent

section Moves

variable {spent : Prop}

theorem Latched.of_status_eq {s t : State} (h : t.status = s.status) : Latched spent s t := by
  constructor <;> rw [h]
  case cancel => exact .inl
  all_goals exact id

theorem Quiet.latched {s t : State} (h : Quiet s t) : Latched spent s t :=
  ⟨h.ovr.trans, h.hs, fun hc => .inl (h.cancel.trans hc)⟩

theorem State.setOvr_latched (s : State) : Latched spent s s.setOvr := ⟨fun _ => rfl, id, .inl⟩

theorem State.unlessBusy_latched {s t : State} (h : t.status = s.status) : Latched spent s (s.unlessBusy t) := by
  unfold State.unlessBusy
  split_ifs
  · exact s.setOvr_latched
  · exact .of_status_eq h

theorem State.writeCancel_latched (s : State) (v : Word) : Latched spent s (s.writeCancel v) := by
  unfold State.writeCancel
  split_ifs
  · exact ⟨id, id, fun _ => .inl rfl⟩
  · exact .of_status_eq rfl

theorem State.regWrite_latched (s : State) (n : BitVec 4) (v : Word) : Latched spent s (s.regWrite n v) := by
  unfold State.regWrite
  split_ifs
  · exact s.writeCancel_latched v
  -- BASE, IMGSEL, LEN0 and LEN1
  iterate 4 · exact State.unlessBusy_latched rfl
  · exact .of_status_eq rfl

theorem State.imgLoad_latched (s : State) (i : ImageSel) (k : Nat) (b : Byte) : Latched spent s (s.imgLoad i k b) := by
  apply State.unlessBusy_latched
  split_ifs
  · exact s.loadByte_status i k b
  · rfl

theorem State.receive_latched (s : State) (a : LinkAnswer) : Latched spent s (s.receive a) := by
  rcases s.receive_quiet a with h | ⟨r, x, -, h⟩
  · exact .of_status_eq (by rw [h])
  · exact { h.latched (spent := spent) with }

/-- Acceptance clears a pending cancel and leaves the other two latches (R220). -/
theorem decodeCtrl_latched {v : Word} {s t : State} (h : exec (decodeCtrl v) s = .next t) (hspent : s.accepts → spent) :
    Latched spent s t := by
  rcases decodeCtrl_exec v s t h with ⟨-, rfl⟩ | ⟨-, rfl⟩ | ⟨hacc, code, hrun⟩
  · exact s.setOvr_latched
  · exact .of_status_eq rfl
  · have hc : spent := hspent hacc
    rcases hrun with ⟨op, -, rfl⟩ | rfl
    · rcases (s.acceptFields code).startOp_cases op with ⟨-, heq⟩ | ⟨-, heq⟩ <;> rw [heq] <;>
        exact ⟨id, id, fun _ => .inr hc⟩
    · exact ⟨id, id, fun _ => .inr hc⟩

theorem State.moveAt_latched {s t : State} (h : s.moveAt.run = .next t)
    (hspent : ∀ e, s.seq.pos = .poll e → t.status.err = .cancelled → spent) : Latched spent s t := by
  rcases s.moveAt_quiet t h with hq | ⟨e, hp, -, rfl⟩
  · exact hq.latched
  · exact ⟨id, id, fun _ => .inr (hspent e hp rfl)⟩

end Moves

/-- The two ways of R31 in which a step other than reset makes a pending cancel go away. -/
def CancelSpent (s t : State) : Prop :=
  (∃ v rest, s.agenda = .regWrite 0x0#4 v :: rest ∧ s.accepts) ∨ (∃ e, s.seq.pos = .poll e ∧ t.status.err = .cancelled)

theorem step_latched {s t : State} (hr : ∀ rest, s.agenda ≠ .reset :: rest) (h : step s = .next t) :
    Latched (CancelSpent s t) s t := by
  obtain ⟨a, u, rfl, hu⟩ := step_cases s t h
  suffices hl : Latched (CancelSpent s t) { s with agenda := a } t from { hl with }
  rcases hu with ⟨hag, -⟩ | ⟨n, v, -, -, rfl⟩ | ⟨v, hag, hv⟩ | ⟨n, -, rfl⟩ | ⟨i, k, b, -, rfl⟩ | ⟨x, rfl⟩ | ⟨-, rfl⟩
    | ⟨-, -, hm⟩
  · exact absurd hag (hr a)
  · exact State.regWrite_latched _ n v
  · exact decodeCtrl_latched hv fun hacc => .inl ⟨v, a, hag, hacc⟩
  · exact .of_status_eq rfl
  · exact State.imgLoad_latched _ i k b
  · exact State.receive_latched _ x
  · exact .of_status_eq rfl
  · exact State.moveAt_latched hm fun e hp herr => .inr ⟨e, hp, herr⟩

/-- Settles O59, by the case analysis of a step: only an acceptance and the cancelled poll iteration clear a latch. -/
theorem latchesHold : Obligations.LatchesHold := by
  intro s t hr h
  have hl := step_latched hr h
  exact ⟨hl.ovr, hl.hs, fun hc hn => (hl.cancel hc).resolve_left (by simp [hn])⟩

end Sys2Proof.Machine
end

section
/-! PROOFS. O20, O30 and O60: the image buffers and the arguments. What a load stores, what WRITE_MEMORY stops at, and what
no step changes while the engine is BUSY. -/

namespace Sys2Proof.Machine

/-! ### An image load (R62) -/

/-- A load into a buffer touches the buffers only. -/
theorem State.loadByte_frame (s : State) (i : ImageSel) (k : Nat) (b : Byte) :
    s.loadByte i k b = { s with img0 := (s.loadByte i k b).img0, img1 := (s.loadByte i k b).img1 } := by
  cases i <;> rfl

theorem State.imgLoad_of_ne {s : State} (h : s.status.state ≠ .busy) (i : ImageSel) (k : Nat) (b : Byte) :
    s.imgLoad i k b = if k < s.params.imgMaxLen then s.loadByte i k b else s :=
  State.unlessBusy_of_ne h

/-- Settles O20: a read of either buffer after the load is the law of `loadByte`. -/
theorem imageLoadStores : Obligations.ImageLoadStores := by
  intro s u i k b h hb
  have hstep : step s = .next (u.imgLoad i k b) := h.step_eq
  rw [← h.status_eq] at hb
  rw [State.imgLoad_of_ne hb] at hstep
  obtain ⟨rest, -, rfl⟩ := h
  refine ⟨fun hk => ?_, fun hk => ?_⟩
  · rw [if_pos hk] at hstep
    refine ⟨_, hstep, State.loadByte_frame _ i k b, ?_, fun j n hjn => ?_⟩
    · rw [State.read_loadByte, if_pos ⟨rfl, rfl⟩]
    · rw [State.read_loadByte, if_neg (not_and_or.mpr hjn)]
      rfl
  · rwa [if_neg (Nat.not_lt.mpr hk)] at hstep

/-! ### Where a page cannot be built (R61, R139) -/

/-- A padded byte has no value exactly if it lies below the image's length and was not loaded. -/
theorem paddedByte_eq_none_iff (m : Memory) (len k : Nat) :
    paddedByte m len k = none ↔ k < len ∧ Memory.read m k = none := by
  unfold paddedByte
  split_ifs with h <;> simp [h]

/-- A run has no value exactly if one of its bytes has none. -/
theorem paddedRun_eq_none_iff (m : Memory) (len n k : Nat) :
    paddedRun m len n k = none ↔ ∃ j, j < n ∧ paddedByte m len (k + j) = none := by
  induction n generalizing k with
  | zero => simp [paddedRun]
  | succ n ih =>
    have hcons : paddedRun m len (n + 1) k = none ↔ paddedByte m len k = none ∨ paddedRun m len n (k + 1) = none := by
      cases hb : paddedByte m len k <;> cases hr : paddedRun m len n (k + 1) <;> simp [paddedRun, hb, hr]
    rw [hcons, ih, Nat.exists_lt_succ_left]
    simp only [Nat.add_zero, Nat.add_assoc, Nat.add_comm 1]

theorem pageBytes_eq_none_iff (m : Memory) (len i : Nat) :
    pageBytes m len i = none ↔ ∃ j, j < 256 ∧ 256 * i + j < len ∧ Memory.read m (256 * i + j) = none := by
  simp only [pageBytes, pageSize, paddedRun_eq_none_iff, paddedByte_eq_none_iff]

/-! ### Which instructions stop -/

/-- Every instruction but WRITE_MEMORY ends in a next state. -/
theorem exec_next_of_ne {i : Instr} (h : i ≠ .writeMemory) (s : State) : ∃ t, exec i s = .next t := by
  cases i with
  | writeMemory => exact absurd rfl h
  | _ => exact ⟨_, rfl⟩

/-- WRITE_MEMORY stops exactly where its page has no bytes. -/
theorem execWriteMemory_fault_iff (s : State) : (∃ f, execWriteMemory s = .fault f) ↔
    pageBytes (s.image s.status.curImg) (s.imageLen s.status.curImg).toNat s.page.toNat = none := by
  rcases execWriteMemory_cases s with ⟨d, hd, h⟩ | ⟨hd, h⟩ <;> rw [h, hd]
  · simp
  · exact iff_of_true ⟨_, rfl⟩ rfl

/-- A page has 256 bytes, so its payload block is not refused (R137, R139). -/
theorem execWriteMemory_ne_refused (s : State) (r : Refusal) : execWriteMemory s ≠ .refused r := by
  rcases execWriteMemory_cases s with ⟨d, -, h⟩ | ⟨-, h⟩ <;> simp [h]

/-- Settles O30: WRITE_MEMORY stops exactly where its page has no bytes, and no other instruction stops. -/
theorem onlyUnloadedBytesStop : Obligations.OnlyUnloadedBytesStop := by
  intro s i
  rw [← pageBytes_eq_none_iff]
  by_cases hi : i = .writeMemory
  · subst hi
    rw [eq_self, true_and]
    exact ⟨execWriteMemory_fault_iff s, execWriteMemory_ne_refused s⟩
  · obtain ⟨t, ht⟩ := exec_next_of_ne hi s
    simp [ht, hi]

/-! ### What is frozen while BUSY (R229) -/

/-- From `s` to `t` the arguments and the images are unchanged. The agenda is no part of it, so taking a turn off the agenda
of `s` changes nothing about it. -/
def ArgsKept (s t : State) : Prop :=
  t.base = s.base ∧ t.imgsel = s.imgsel ∧ t.len0 = s.len0 ∧ t.len1 = s.len1 ∧ t.img0 = s.img0 ∧ t.img1 = s.img1

theorem ArgsKept.same (s : State) : ArgsKept s s := ⟨rfl, rfl, rfl, rfl, rfl, rfl⟩

theorem State.setOvr_argsKept (s : State) : ArgsKept s s.setOvr := .same s

/-- A write or load that the engine ignores while BUSY only sets OVR, whatever it would have done. -/
theorem State.unlessBusy_of_busy {s : State} (h : s.status.state = .busy) (taken : State) :
    s.unlessBusy taken = s.setOvr := by
  simp [State.unlessBusy, State.isBusy, h]

theorem State.writeCancel_argsKept (s : State) (v : Word) : ArgsKept s (s.writeCancel v) := by
  unfold State.writeCancel
  split_ifs <;> exact .same s

theorem State.regWrite_argsKept {s : State} (n : BitVec 4) (v : Word) (h : s.status.state = .busy) :
    ArgsKept s (s.regWrite n v) := by
  simp only [State.regWrite, State.unlessBusy_of_busy h]
  split_ifs
  · exact s.writeCancel_argsKept v
  -- BASE, IMGSEL, LEN0 and LEN1
  iterate 4 · exact s.setOvr_argsKept
  · exact .same s

theorem State.imgLoad_argsKept {s : State} (i : ImageSel) (k : Nat) (b : Byte) (h : s.status.state = .busy) :
    ArgsKept s (s.imgLoad i k b) := by
  rw [State.imgLoad, State.unlessBusy_of_busy h]
  exact s.setOvr_argsKept

/-- A CTRL write while BUSY is not accepted (R220). -/
theorem decodeCtrl_argsKept {v : Word} {s t : State} (hb : s.status.state = .busy)
    (h : exec (decodeCtrl v) s = .next t) : ArgsKept s t := by
  rcases decodeCtrl_exec v s t h with ⟨-, rfl⟩ | ⟨-, rfl⟩ | ⟨hacc | hacc, -⟩
  · exact s.setOvr_argsKept
  · exact .same _
  all_goals exact absurd (hb.symm.trans hacc) (by decide)

theorem State.receive_argsKept (s : State) (a : LinkAnswer) : ArgsKept s (s.receive a) := by
  rcases s.receive_quiet a with h | ⟨r, x, -, h⟩
  · rw [h]; exact .same s
  · exact h.args

theorem State.moveAt_argsKept {s t : State} (h : s.moveAt.run = .next t) : ArgsKept s t := by
  rcases s.moveAt_quiet t h with hq | ⟨e, -, -, rfl⟩
  · exact hq.args
  · exact .same s

theorem step_argsKept {s t : State} (hb : s.status.state = .busy) (hr : ∀ rest, s.agenda ≠ .reset :: rest)
    (h : step s = .next t) : ArgsKept s t := by
  obtain ⟨a, u, rfl, hu⟩ := step_cases s t h
  change ArgsKept { s with agenda := a } t
  rcases hu with ⟨hag, -⟩ | ⟨n, v, -, -, rfl⟩ | ⟨v, -, hv⟩ | ⟨n, -, rfl⟩ | ⟨i, k, b, -, rfl⟩ | ⟨x, rfl⟩ | ⟨-, rfl⟩
    | ⟨-, -, hm⟩
  · exact absurd hag (hr a)
  · exact State.regWrite_argsKept n v hb
  · exact decodeCtrl_argsKept hb hv
  · exact .same _
  · exact State.imgLoad_argsKept i k b hb
  · exact State.receive_argsKept _ x
  · exact .same _
  · exact State.moveAt_argsKept hm

/-! ### The engine's turn -/

/-- The step makes the engine's move, whether the agenda names it or is used up. -/
theorem State.engineNext.step_eq {s u : State} (h : s.engineNext u) : step s = u.engineMove.run := by
  rcases h with ⟨rest, hag, rfl⟩ | ⟨hag, hf, rfl⟩
  · rw [step_run, State.fetch_cons s .engine rest hag]
    rfl
  · simp [step_run, State.fetch, hag, hf]

/-- Taking the engine's turn off the agenda leaves the port alone. -/
theorem State.engineNext.inFlight_eq {s u : State} (h : s.engineNext u) : u.inFlight = s.inFlight := by
  rcases h with ⟨rest, -, rfl⟩ | ⟨-, -, rfl⟩ <;> rfl

/-- The engine waits for the answer to its outstanding transfer (R110, R115). -/
theorem State.engineMove_of_inFlight {s : State} (h : s.inFlight ≠ none) : s.engineMove = .moved s := by
  rcases s.engineMove_cases with ⟨-, hf, -⟩ | ⟨-, heq⟩
  · exact absurd hf h
  · exact heq

/-- Settles O60: by the case analysis of a step, no move of a BUSY engine, of the link or of the host changes an argument. -/
theorem busyFreezesArguments : Obligations.BusyFreezesArguments := by
  intro s t hb hr h
  refine ⟨step_argsKept hb hr h, fun u hu hf => ?_⟩
  rw [hu.step_eq, State.engineMove_of_inFlight (by rwa [hu.inFlight_eq])] at h
  cases h
  rfl

end Sys2Proof.Machine
end

section
/-! PROOFS. O1 to O5: the two encoding levels. A CTRL word is a code and the ignored bits above it, and `ctrlInstr` says which
instruction the two are; a wire instruction is a control byte or an opcode with its complement. -/

namespace Sys2Proof

/-! ### CTRL words (R92 to R94) -/

/-- The host op a code and the ignored bits above it are, as `decodeCtrl` reads it (R93, R94). -/
def ctrlInstr (op : BitVec 4) (ign : BitVec 28) : Instr :=
  if op = 0x1#4 then .opConnect ign
  else if op = 0x2#4 then .opGetVersion ign
  else if op = 0x3#4 then .opGetId ign
  else if op = 0x4#4 then .opGlobalErase ign
  else if op = 0x5#4 then .opProgramImage ign
  else if op = 0x6#4 then .opFlashRun ign
  else .opReserved op ign

theorem decodeCtrl_eq_ctrlInstr (v : Word) : decodeCtrl v = ctrlInstr (v.extractLsb' 0 4) (v.extractLsb' 4 28) := rfl

theorem ctrlWord_ign (op : BitVec 4) (ign : BitVec 28) : (ctrlWord op ign).extractLsb' 4 28 = ign := by
  rw [ctrlWord, BitVec.extractLsb'_or, Machine.extract_fieldAt_other op (by decide),
    Machine.extract_fieldAt_same ign (by decide), BitVec.zero_or]

theorem decodeCtrl_ctrlWord (op : BitVec 4) (ign : BitVec 28) : decodeCtrl (ctrlWord op ign) = ctrlInstr op ign := by
  rw [decodeCtrl_eq_ctrlInstr, Laws.RowShape.ctrlWord_op, ctrlWord_ign]

/-- A CTRL word is made of its code and the 28 bits above it: bits below 4 come from the one, the others from the other. -/
theorem ctrlWord_extract (v : Word) : ctrlWord (v.extractLsb' 0 4) (v.extractLsb' 4 28) = v := by
  apply BitVec.eq_of_getLsbD_eq
  intro i hi
  rw [ctrlWord, BitVec.getLsbD_or]
  by_cases h : i < 4
  · rw [Machine.getLsbD_fieldAt_other (lo := 4) _ (.inl h), Machine.getLsbD_fieldAt, BitVec.getLsbD_extractLsb']
    simp [h, hi]
  · have hsub : i - 4 < 28 := by omega
    rw [Machine.getLsbD_fieldAt_other (lo := 0) _ (.inr (by omega)), Machine.getLsbD_fieldAt, BitVec.getLsbD_extractLsb',
      Nat.add_sub_cancel' (Nat.not_lt.mp h)]
    simp [Nat.not_lt.mp h, hi, hsub]

/-- A code is reserved if and only if it is none of the six that have a body (R93, R94). -/
theorem reservedOp_iff (op : BitVec 4) : reservedOp op = true ↔
    op ≠ 0x1#4 ∧ op ≠ 0x2#4 ∧ op ≠ 0x3#4 ∧ op ≠ 0x4#4 ∧ op ≠ 0x5#4 ∧ op ≠ 0x6#4 := by
  revert op
  decide

theorem ctrlInstr_reserved {op : BitVec 4} (h : reservedOp op = true) (ign : BitVec 28) :
    ctrlInstr op ign = .opReserved op ign := by
  obtain ⟨h1, h2, h3, h4, h5, h6⟩ := (reservedOp_iff op).mp h
  rw [ctrlInstr, if_neg h1, if_neg h2, if_neg h3, if_neg h4, if_neg h5, if_neg h6]

theorem ctrlInstr_wf (op : BitVec 4) (ign : BitVec 28) : (ctrlInstr op ign).wf = true := by
  unfold ctrlInstr
  split_ifs with h1 h2 h3 h4 h5 h6
  case neg => exact (reservedOp_iff op).mpr ⟨h1, h2, h3, h4, h5, h6⟩
  all_goals rfl

theorem encode_ctrlInstr (op : BitVec 4) (ign : BitVec 28) : encode (ctrlInstr op ign) = .ctrl (ctrlWord op ign) := by
  unfold ctrlInstr
  split_ifs with h1 h2 h3 h4 h5 h6
  case neg => rfl
  all_goals subst op; rfl

theorem decode_ctrlWord (op : BitVec 4) (ign : BitVec 28) : decode (.ctrl (ctrlWord op ign)) = some (ctrlInstr op ign) :=
  congrArg some (decodeCtrl_ctrlWord op ign)

/-- Settles O1: a wire instruction's bytes are read by evaluation, and a host op's word gives back its code and its bits. -/
theorem decodeOfEncode : Obligations.DecodeOfEncode := by
  intro i hwf
  cases i with
  | getVersion | getId | globalErase | writeMemory | sync | ack | nack => rfl
  | opConnect ign | opGetVersion ign | opGetId ign | opGlobalErase ign | opProgramImage ign | opFlashRun ign =>
    exact decode_ctrlWord _ ign
  | opReserved op ign =>
    rw [encode, decode_ctrlWord, ctrlInstr_reserved hwf]

/-- Settles O2: every word is made of a code and 28 bits, and every code is an instruction's. -/
theorem ctrlWordsAllDecode : Obligations.CtrlWordsAllDecode := fun v =>
  ⟨ctrlInstr_wf _ _, by rw [decodeCtrl_eq_ctrlInstr, encode_ctrlInstr, ctrlWord_extract]⟩

/-! ### The wire (R80 to R82) -/

theorem controlOfByte_eq_none_iff (b : Byte) : controlOfByte b = none ↔ b ∉ [0x5A#8, 0x79#8, 0x1F#8] := by
  unfold controlOfByte
  split_ifs with hsync hack hnack
  case neg => exact iff_of_true rfl (by simpa using ⟨hsync, hack, hnack⟩)
  all_goals subst b; decide

theorem commandOfOpcode_eq_none_iff (b : Byte) : commandOfOpcode b = none ↔ b ∉ [0x01#8, 0x02#8, 0x44#8, 0x31#8] := by
  unfold commandOfOpcode
  split_ifs with hver hid herase hwrite
  case neg => exact iff_of_true rfl (by simpa using ⟨hver, hid, herase, hwrite⟩)
  all_goals subst b; decide

theorem encode_of_controlOfByte {b : Byte} {i : Instr} (h : controlOfByte b = some i) : encode i = .wire [b] := by
  unfold controlOfByte at h
  split_ifs at h
  all_goals cases h
  all_goals subst b; rfl

theorem encode_of_commandOfOpcode {b : Byte} {i : Instr} (h : commandOfOpcode b = some i) :
    encode i = .wire (commandBytes b) := by
  unfold commandOfOpcode at h
  split_ifs at h
  all_goals cases h
  all_goals subst b; rfl

/-- No byte is both a control byte and an opcode. -/
theorem controlOfByte_of_opcode : ∀ b ∈ [0x01#8, 0x02#8, 0x44#8, 0x31#8], controlOfByte b = none := by
  decide

theorem decodeWire_control {b : Byte} {i : Instr} (h : controlOfByte b = some i) (rest : List Byte) :
    decodeWire (b :: rest) = .instr i rest := by
  simp [decodeWire, h]

theorem decodeWire_notAnOpcode {b : Byte} (hctl : controlOfByte b = none) (hcmd : commandOfOpcode b = none)
    (rest : List Byte) : decodeWire (b :: rest) = .reject .notAnOpcode := by
  simp [decodeWire, hctl, hcmd]

theorem decodeWire_opcode_alone {b : Byte} {i : Instr} (hctl : controlOfByte b = none) (hcmd : commandOfOpcode b = some i) :
    decodeWire [b] = .reject .truncatedFrame := by
  simp [decodeWire, hctl, hcmd]

theorem decodeWire_opcode {b : Byte} {i : Instr} (hctl : controlOfByte b = none) (hcmd : commandOfOpcode b = some i)
    (c : Byte) (rest : List Byte) :
    decodeWire (b :: c :: rest) = if c = not8 b then .instr i rest else .reject .badComplement := by
  simp [decodeWire, hctl, hcmd]

/-- An instruction read from the wire is one control byte, or an opcode and its complement. -/
theorem decodeWire_instr_cases {bs : List Byte} {i : Instr} {rest : List Byte} (h : decodeWire bs = .instr i rest) :
    (∃ b, controlOfByte b = some i ∧ bs = b :: rest)
      ∨ (∃ b, commandOfOpcode b = some i ∧ bs = b :: not8 b :: rest) := by
  rcases bs with _ | ⟨b, bs⟩
  · cases h
  cases hctl : controlOfByte b with
  | some j =>
    rw [decodeWire_control hctl] at h
    cases h
    exact .inl ⟨b, hctl, rfl⟩
  | none =>
    cases hcmd : commandOfOpcode b with
    | none => rw [decodeWire_notAnOpcode hctl hcmd] at h; cases h
    | some j =>
      rcases bs with _ | ⟨c, bs⟩
      · rw [decodeWire_opcode_alone hctl hcmd] at h; cases h
      rw [decodeWire_opcode hctl hcmd] at h
      split_ifs at h with hc
      cases h
      exact .inr ⟨b, hcmd, by rw [hc]⟩

/-- Settles O3: the two ways the decoder reads an instruction are the two forms of a wire encoding. -/
theorem wireDecodeSound : Obligations.WireDecodeSound := by
  intro bs i rest h
  rcases decodeWire_instr_cases h with ⟨b, hctl, rfl⟩ | ⟨b, hcmd, rfl⟩
  · exact ⟨[b], encode_of_controlOfByte hctl, rfl⟩
  · exact ⟨commandBytes b, encode_of_commandOfOpcode hcmd, rfl⟩

/-- A byte and its complement XOR to 0xFF (R134). -/
theorem xor_not8 (b : Byte) : b ^^^ not8 b = 0xFF#8 := by
  rw [not8, ← BitVec.xor_assoc, BitVec.xor_self, BitVec.zero_xor]

/-- Settles O4: the seven bytes of R80 and R82 are those that `controlOfByte` and `commandOfOpcode` know. -/
theorem wireDecodeRejects : Obligations.WireDecodeRejects := by
  intro b c rest
  have opcode (hb : b ∈ [0x01#8, 0x02#8, 0x44#8, 0x31#8]) : ∃ i, commandOfOpcode b = some i :=
    Option.ne_none_iff_exists'.mp fun hn => (commandOfOpcode_eq_none_iff b).mp hn hb
  refine ⟨fun hb => ?_, fun hb hx => ?_, fun hb => ?_⟩
  · obtain ⟨hctl, hcmd⟩ : b ∉ [0x5A#8, 0x79#8, 0x1F#8] ∧ b ∉ [0x01#8, 0x02#8, 0x44#8, 0x31#8] := by
      rwa [← not_or, ← List.mem_append]
    exact decodeWire_notAnOpcode ((controlOfByte_eq_none_iff b).mpr hctl) ((commandOfOpcode_eq_none_iff b).mpr hcmd) rest
  · obtain ⟨i, hi⟩ := opcode hb
    have hc : c ≠ not8 b := fun hc => hx (hc ▸ xor_not8 b)
    rw [decodeWire_opcode (controlOfByte_of_opcode b hb) hi, if_neg hc]
  · obtain ⟨i, hi⟩ := opcode hb
    exact decodeWire_opcode_alone (controlOfByte_of_opcode b hb) hi

/-- Settles O5: the decoders evaluate to the table's instruction on each word. -/
theorem tableWordsDecode : Obligations.TableWordsDecode := by
  unfold Obligations.TableWordsDecode
  decide

end Sys2Proof
end

section
/-! PROOFS. O10, O32 and O36: the payload block, and what a byte from the link is: ACK or NACK if it decodes to one, and a
byte like any other where the engine does not poll. -/

namespace Sys2Proof.Machine

/-! ### The payload block -/

/-- The checksum makes a block XOR to zero (R132). -/
theorem foldXor_checksummedBlock (bs : List Byte) : foldXor (checksummedBlock bs) = 0x00#8 := by
  rw [checksummedBlock, foldXor_append_single, BitVec.xor_self]

/-- Settles O10: a length from 1 to 256 less one is a byte, and the block is a checksummed one. -/
theorem payloadBlockBytes : Obligations.PayloadBlockBytes := by
  intro d
  rw [writePayloadBlock_eq]
  refine ⟨fun hpos hle => ?_, fun hlen => if_neg (by omega)⟩
  refine ⟨foldXor (BitVec.ofNat 8 (d.length - 1) :: d), BitVec.ofNat 8 (d.length - 1), if_pos ⟨hpos, hle⟩, ?_,
    foldXor_checksummedBlock _⟩
  rw [BitVec.toNat_ofNat]
  omega

/-! ### The step of a link's answer -/

/-- The next move is the link's answer, whether the agenda names it or it is the free one. -/
theorem State.answerNext.fetch_eq {s u : State} {r : Request} {a : LinkAnswer} (h : s.answerNext u r a) :
    s.fetch = u.deliver a := by
  obtain ⟨hf, ⟨rest, hag, rfl⟩ | ⟨hag, rfl, rfl⟩⟩ := h
  · exact State.fetch_cons s (.link a) rest hag
  · simp [State.fetch, hag, hf]

theorem State.answerNext.step_eq {s u : State} {r : Request} {a : LinkAnswer} (h : s.answerNext u r a) :
    step s = .next (u.receive a) :=
  State.deliver_run s u a h.fetch_eq

theorem State.answerNext.inFlight_eq {s u : State} {r : Request} {a : LinkAnswer} (h : s.answerNext u r a) :
    u.inFlight = some r := by
  obtain ⟨hf, ⟨rest, -, rfl⟩ | ⟨-, -, rfl⟩⟩ := h <;> exact hf

/-- Taking the answer off the agenda leaves the sequencer alone. -/
theorem State.answerNext.seq_eq {s u : State} {r : Request} {a : LinkAnswer} (h : s.answerNext u r a) :
    u.seq = s.seq := by
  obtain ⟨-, ⟨rest, -, rfl⟩ | ⟨-, -, rfl⟩⟩ := h <;> rfl

/-! ### Control bytes -/

theorem exec_ack (s : State) : exec .ack s = .next (s.receive (.byte ackByte)) := rfl

theorem exec_nack (s : State) : exec .nack s = .next (s.receive (.byte nackByte)) := rfl

/-- A byte decodes to an instruction of one byte if and only if it is that byte. -/
theorem decodeWire_single_iff {i : Instr} {x : Byte} (hx : controlOfByte x = some i) (b : Byte) :
    decodeWire [b] = .instr i [] ↔ b = x := by
  constructor
  · intro h
    obtain ⟨es, hes, hb⟩ := wireDecodeSound [b] i [] h
    rw [encode_of_controlOfByte hx] at hes
    cases hes
    simpa using hb
  · rintro rfl
    exact decodeWire_control hx []

theorem decodeWire_ack_iff (b : Byte) : decodeWire [b] = .instr .ack [] ↔ b = ackByte := decodeWire_single_iff rfl b

theorem decodeWire_nack_iff (b : Byte) : decodeWire [b] = .instr .nack [] ↔ b = nackByte := decodeWire_single_iff rfl b

/-- Settles O32: the three ways a byte is delivered are told apart by what it decodes to. -/
theorem stepRunsControlByte : Obligations.StepRunsControlByte := by
  intro s u r b h
  simp only [ne_eq, decodeWire_ack_iff, decodeWire_nack_iff]
  rw [h.step_eq]
  refine ⟨?_, ?_, fun hack hnack => ?_⟩
  · rintro rfl
    exact (exec_ack u).symm
  · rintro rfl
    exact (exec_nack u).symm
  · rcases u.deliver_cases (.byte b) with ⟨heq, -⟩ | ⟨heq, -⟩ | ⟨-, -, hmoved⟩
    · exact absurd (LinkAnswer.byte.inj heq) hack
    · exact absurd (LinkAnswer.byte.inj heq) hnack
    · exact ⟨h.fetch_eq.trans hmoved, rfl⟩

/-- A byte that comes back during a Write with more to send only moves the Write on (R112). -/
theorem State.receive_write_more {s : State} {r : Request} {e : Element} {x y : Byte} {rest : List Byte}
    (hf : s.inFlight = some r) (hp : s.seq.pos = .write e x (y :: rest)) (b : Byte) :
    s.receive (.byte b) = { s with
      seq := { s.seq with pos := .write e y rest }
      trace := s.trace ++ [⟨r, some (.byte b)⟩], inFlight := none } := by
  rw [State.receive_byte s r b hf]
  simp [State.gotByte, State.settleTransfer, State.setPos, hp]

/-- A byte of a Read with more to come is kept as data (R113). -/
theorem State.receive_read_more {s : State} {r : Request} {n : Nat} {got : List Byte}
    (hf : s.inFlight = some r) (hp : s.seq.pos = .read (n + 1) got) (b : Byte) :
    s.receive (.byte b) = { s with
      seq := { s.seq with pos := .read n (got ++ [b]) }
      trace := s.trace ++ [⟨r, some (.byte b)⟩], inFlight := none } := by
  rw [State.receive_byte s r b hf]
  simp [State.gotByte, State.settleTransfer, State.setPos, hp]

/-- Settles O36: running ACK or NACK, like the step of any byte, is receiving it. -/
theorem controlBytesElsewhere : Obligations.ControlBytesElsewhere := by
  refine ⟨fun s i b hib => ?_, fun s u r b h => ?_⟩
  · have hexec : exec i s = .next (s.receive (.byte b)) := by
      rcases hib with ⟨rfl, rfl⟩ | ⟨rfl, rfl⟩
      · exact exec_ack s
      · exact exec_nack s
    rw [hexec]
    refine ⟨fun hf => ?_, fun r e x y rest hf hp => ?_, fun r n got hf hp => ?_⟩
    · rw [State.receive_idle s _ hf]
    · rw [State.receive_write_more hf hp]
    · rw [State.receive_read_more hf hp]
  · rw [h.step_eq, ← h.seq_eq]
    refine ⟨fun e x y rest hp => ?_, fun n got hp => ?_⟩
    · rw [State.receive_write_more h.inFlight_eq hp]
    · rw [State.receive_read_more h.inFlight_eq hp]

end Sys2Proof.Machine
end

section
/-! PROOFS. O39 and O41: the transfers of an exchange call. At every position but a poll's start the engine issues the
position's request, a transfer is that request and the link's answer, and a Write is one transfer per byte. -/

namespace Sys2Proof.Machine

/-! ### Requests (R111 to R113, R152) -/

/-- Where no cancel or limit is checked first, the engine's move is the request of its position. -/
theorem State.moveAt_of_request {s : State} {r : Request} (hr : s.seq.pos.request s.params = some r)
    (hp : ∀ e, s.seq.pos ≠ .poll e) : s.moveAt = .moved { s with inFlight := some r } := by
  cases hpos : s.seq.pos <;> simp only [hpos, Pos.request, reduceCtorEq, Option.some.injEq] at hr
  case poll e => exact absurd hpos (hp e)
  all_goals
    subst hr
    simp [State.moveAt, State.issue, hpos]

theorem State.engineMove_of_request {s : State} {r : Request} (hb : s.status.state = .busy) (hf : s.inFlight = none)
    (hr : s.seq.pos.request s.params = some r) (hp : ∀ e, s.seq.pos ≠ .poll e) :
    s.engineMove = .moved { s with inFlight := some r } := by
  rcases s.engineMove_cases with ⟨-, -, heq⟩ | ⟨hb' | hf', -⟩
  · rw [heq, State.moveAt_of_request hr hp]
  · exact absurd hb hb'
  · exact absurd hf hf'

/-- Taking the engine's turn changes the agenda only. -/
theorem State.engineNext.eq_withAgenda {s u : State} (h : s.engineNext u) : ∃ a, u = { s with agenda := a } := by
  rcases h with ⟨rest, -, rfl⟩ | ⟨-, -, rfl⟩ <;> exact ⟨_, rfl⟩

theorem State.engineNext.step_of_request {s u : State} {r : Request} (h : s.engineNext u)
    (hb : s.status.state = .busy) (hf : s.inFlight = none) (hr : s.seq.pos.request s.params = some r)
    (hp : ∀ e, s.seq.pos ≠ .poll e) : step s = .next { u with inFlight := some r } := by
  rw [h.step_eq]
  obtain ⟨a, rfl⟩ := h.eq_withAgenda
  rw [State.engineMove_of_request (s := { s with agenda := a }) hb hf hr hp, Fetched.run]

/-- Settles O39: the three positions' requests are those of `Pos.request`. -/
theorem requestsIssued : Obligations.RequestsIssued := by
  intro s u h hb hf
  refine ⟨fun e b rest hp => ?_, fun n got hp => ?_, fun e hp => ?_⟩
  · have hlast : rest.isEmpty = decide (rest = []) := by cases rest <;> rfl
    exact h.step_of_request hb hf (by rw [hp, Pos.request, hlast]) (by simp [hp])
  · exact h.step_of_request hb hf (by rw [hp]; rfl) (by simp [hp])
  · exact h.step_of_request hb hf (by rw [hp]; rfl) (by simp [hp])

/-! ### Transfers in a run -/

theorem run_of_step {s t : State} (h : step s = .next t) (k : Nat) : core.run (k + 1) s = core.run k t := by
  simp only [Host.Core.run, core, h]

/-- A transfer is two steps: the request, and the answer, which leaves the port idle and goes to the position. -/
theorem run_transfer {s : State} {r : Request} {x : Byte} {more : List Turn} (hb : s.status.state = .busy)
    (hf : s.inFlight = none) (hr : s.seq.pos.request s.params = some r) (hp : ∀ e, s.seq.pos ≠ .poll e)
    (hag : s.agenda = transferTurns x ++ more) (k : Nat) :
    core.run (k + 2) s
      = core.run k (State.gotByte { s with trace := s.trace ++ [⟨r, some (.byte x)⟩], agenda := more } x) := by
  have hengine : s.engineNext { s with agenda := .link (.byte x) :: more } := .inl ⟨_, hag, rfl⟩
  have hlink : State.answerNext { s with inFlight := some r, agenda := .link (.byte x) :: more }
      { s with inFlight := some r, agenda := more } r (.byte x) := ⟨rfl, .inl ⟨more, rfl, rfl⟩⟩
  rw [run_of_step (hengine.step_of_request hb hf hr hp), run_of_step hlink.step_eq,
    State.receive_byte _ r x hlink.inFlight_eq, State.settleTransfer, hf]

/-! ### A Write (R111, R112) -/

/-- A Write's run, by induction on the bytes after the next one: each transfer leaves the Write of the rest, and the last
one the ack wait (R150, R156, R157). -/
theorem run_write {s : State} {e : Element} {b : Byte} {rest xs : List Byte} {more : List Turn}
    (hb : s.status.state = .busy) (hf : s.inFlight = none) (hp : s.seq.pos = .write e b rest)
    (hlen : xs.length = rest.length + 1) (hag : s.agenda = transfersTurns xs ++ more) :
    core.run (2 * xs.length) s
      = .next (State.enterAckWait { s with trace := s.trace ++ callEntries (b :: rest) xs, agenda := more } e) := by
  induction rest generalizing s b xs with
  | nil =>
    obtain ⟨x, rfl⟩ := List.length_eq_one_iff.mp hlen
    have hlast := run_transfer (r := ⟨b, true⟩) hb hf (by rw [hp]; rfl) (by simp [hp]) hag 0
    simpa [State.gotByte, hp, Host.Core.run, callEntries] using hlast
  | cons c rest ih =>
    obtain ⟨x, xs, rfl⟩ := List.exists_cons_of_length_eq_add_one hlen
    rw [transfersTurns, List.flatMap_cons, List.append_assoc] at hag
    have hfirst := run_transfer (r := ⟨b, false⟩) hb hf (by rw [hp]; rfl) (by simp [hp]) hag (2 * xs.length)
    have hrest := ih (xs := xs)
      (s := State.setPos { s with
        trace := s.trace ++ [⟨⟨b, false⟩, some (.byte x)⟩], agenda := transfersTurns xs ++ more } (.write e c rest))
      hb hf rfl (by simpa using hlen) rfl
    simp only [State.gotByte, hp] at hfirst
    rw [List.length_cons, Nat.mul_succ]
    refine (hfirst.trans hrest).trans ?_
    simp [State.enterAckWait, State.setHs, callEntries]

/-- Settles O41: the end of the Write's run, with the entry to the ack wait written out. -/
theorem writeSendsItsBytes : Obligations.WriteSendsItsBytes :=
  fun _ _ _ _ _ _ hb hf hp hlen hag => run_write hb hf hp hlen hag

end Sys2Proof.Machine
end

section
/-! PROOFS. O6 to O9, O11 to O13 and O29: the codec's blocks, the pages of an image, and WRITE_MEMORY, which begins with
a page's blocks. -/

namespace Sys2Proof.Machine

/-! ### The frames and blocks of the codec -/

/-- Settles O6: the checksum cancels the fold of the bytes before it. -/
theorem checksummedBlockFoldsToZero : Obligations.ChecksummedBlockFoldsToZero :=
  foldXor_checksummedBlock

/-- Settles O7: the frame is the definition, and a byte and its complement XOR to 0xFF. -/
theorem commandBytesComplement : Obligations.CommandBytesComplement :=
  fun op => ⟨rfl, xor_not8 op⟩

/-- The address block's checksum is the XOR of the four address bytes. -/
theorem addressBlock_eq (a : Word) :
    addressBlock a = be32 a ++
      [a.extractLsb' 24 8 ^^^ a.extractLsb' 16 8 ^^^ a.extractLsb' 8 8 ^^^ a.extractLsb' 0 8] := by
  simp [addressBlock, checksummedBlock, be32, foldXor]

/-- The bytes of `be32` are the big-endian digits of the word (R135). -/
theorem toNat_eq_bigEndian (a : Word) :
    a.toNat = 16777216 * (a.extractLsb' 24 8).toNat + 65536 * (a.extractLsb' 16 8).toNat
      + 256 * (a.extractLsb' 8 8).toNat + (a.extractLsb' 0 8).toNat := by
  have hlt : a.toNat < 4294967296 := a.isLt
  simp only [BitVec.extractLsb'_toNat]
  omega

/-- Settles O8: the bytes of `be32`, their XOR, and the sum they are the digits of. -/
theorem addressBlockBytes : Obligations.AddressBlockBytes :=
  fun a => ⟨_, _, _, _, addressBlock_eq a, toNat_eq_bigEndian a⟩

/-- The chip id's two bytes do not overlap, so it is their concatenation (R141). -/
theorem chipIdOf_toNat (hi lo : Byte) : (chipIdOf hi lo).toNat = 256 * hi.toNat + lo.toNat := by
  have happend : chipIdOf hi lo = hi ++ lo := by
    rw [BitVec.append_def, BitVec.shiftLeftZeroExtend_eq, BitVec.setWidth'_eq]
    rfl
  rw [happend, BitVec.toNat_append, ← Nat.shiftLeft_add_eq_or_of_lt lo.isLt, Nat.shiftLeft_eq, Nat.mul_comm]

/-- Settles O9: the erase block is a closed value, and the chip id is the concatenation of its bytes. -/
theorem eraseBlockAndChipId : Obligations.EraseBlockAndChipId :=
  ⟨by decide, chipIdOf_toNat⟩

/-! ### The pages of an image (R138 to R140) -/

/-- The page count is the least number of pages: it is at most `n` exactly if `n` pages hold the image. -/
theorem npages_le_iff (len n : Nat) : npages len ≤ n ↔ len ≤ 256 * n := by
  unfold npages
  omega

/-- Settles O11: the two directions of `npages_le_iff`, the first at the page count itself. -/
theorem pageCountIsCeiling : Obligations.PageCountIsCeiling :=
  fun len => ⟨(npages_le_iff len _).mp le_rfl, fun n => (npages_le_iff len n).mpr⟩

/-- A run's byte j is the padded image's byte j after its start. -/
theorem paddedRun_getElem? {m : Memory} {len n k : Nat} {d : List Byte} (h : paddedRun m len n k = some d)
    {j : Nat} (hj : j < n) : d[j]? = paddedByte m len (k + j) := by
  induction n generalizing k d j with
  | zero => exact absurd hj j.not_lt_zero
  | succ n ih =>
    simp only [paddedRun] at h
    split at h
    · next b bs hb hbs =>
      cases h
      cases j with
      | zero => exact hb.symm
      | succ j => rw [List.getElem?_cons_succ, ih hbs (Nat.lt_of_succ_lt_succ hj), Nat.add_assoc, Nat.add_comm 1]
    · cases h

/-- A page whose image bytes were all loaded can be built (R139). -/
theorem exists_pageBytes {m : Memory} {len i : Nat}
    (h : ∀ j, j < 256 → 256 * i + j < len → ∃ b, Memory.read m (256 * i + j) = some b) :
    ∃ d, pageBytes m len i = some d := by
  refine Option.ne_none_iff_exists'.mp fun hnone => ?_
  obtain ⟨j, hj, hlt, hread⟩ := (pageBytes_eq_none_iff m len i).mp hnone
  obtain ⟨b, hb⟩ := h j hj hlt
  exact absurd hread (by simp [hb])

/-- Settles O12: the page exists, and its bytes are those of the padded image from 256 * i on. -/
theorem pageContents : Obligations.PageContents := by
  intro m len i h
  obtain ⟨d, hd⟩ := exists_pageBytes h
  refine ⟨d, hd, pageBytes_length m len i d hd, fun j hj => ?_⟩
  have hbyte : d[j]? = paddedByte m len (256 * i + j) := paddedRun_getElem? hd hj
  rw [hbyte]
  exact ⟨fun hlt => if_pos hlt, fun hle => if_neg (Nat.not_lt.mpr hle)⟩

/-- The argument check, for an image that has a page: the last page ends below 2^32. -/
theorem end_lt_of_fits {maxLen len base i : Nat} (h : fits maxLen len base = true) (hi : i < npages len) :
    base + 256 * i + 255 ≤ 0xFFFFFFFF := by
  have hlen : len ≠ 0 := fun h0 => by simp [h0, npages] at hi
  simp only [fits, hlen, if_false, Bool.and_eq_true, decide_eq_true_eq] at h
  obtain ⟨-, hend⟩ := h
  rw [pageSize] at hend
  omega

/-- A page address is the exact sum where that is a word. -/
theorem pageAddress_toNat {base : Word} {i : Nat} (h : base.toNat + 256 * i ≤ 0xFFFFFFFF) :
    (pageAddress base i).toNat = base.toNat + 256 * i :=
  Nat.mod_eq_of_lt (Nat.lt_succ_of_le h)

/-- Settles O13: no page address of a checked image wraps, so they are sums that rise with the index. -/
theorem pageAddressesExact : Obligations.PageAddressesExact := by
  intro maxLen len base i h hi
  have hend : base.toNat + 256 * i + 255 ≤ 0xFFFFFFFF := end_lt_of_fits h hi
  have haddr : (pageAddress base i).toNat = base.toNat + 256 * i := pageAddress_toNat (by omega)
  refine ⟨haddr, by rwa [haddr], fun j hj => ?_⟩
  rw [haddr, pageAddress_toNat (by omega : base.toNat + 256 * j ≤ 0xFFFFFFFF)]
  omega

/-! ### WRITE_MEMORY (R194, R195) -/

/-- WRITE_MEMORY begins with the payload block of its page once the page is built. -/
theorem execWriteMemory_of_pageBytes {s : State} {d : List Byte}
    (h : pageBytes (s.image s.status.curImg) (s.imageLen s.status.curImg).toNat s.page.toNat = some d) :
    execWriteMemory s = .next (s.beginWriteBlocks (checksummedBlock (0xFF#8 :: d))) := by
  rcases execWriteMemory_cases s with ⟨d', hd', hexec⟩ | ⟨hnone, -⟩
  · cases hd'.symm.trans h
    exact hexec
  · cases hnone.symm.trans h

/-- Settles O29: the page can be built, and what begins is `beginWriteBlocks` written out. -/
theorem writeMemoryBegins : Obligations.WriteMemoryBegins := by
  intro s h
  obtain ⟨d, hd⟩ := exists_pageBytes h
  exact ⟨d, _, hd, pageBytes_length _ _ _ d hd, rfl, execWriteMemory_of_pageBytes hd⟩

end Sys2Proof.Machine
end

section
/-! PROOFS. O27, O33 to O35, O37, O38 and O47: the handshake move by move. In front of a client operation the engine runs
its instruction, a poll iteration checks cancel, then the limit, then polls, and a poll's byte resolves the ack wait or is
discarded. -/

namespace Sys2Proof.Machine

/-! ### The engine's move -/

/-- Taking the engine's turn leaves the sequencer alone. -/
theorem State.engineNext.seq_eq {s u : State} (h : s.engineNext u) : u.seq = s.seq := by
  obtain ⟨a, rfl⟩ := h.eq_withAgenda
  rfl

/-- A BUSY engine with the port free moves at its position. -/
theorem State.engineNext.step_eq_moveAt {s u : State} (h : s.engineNext u) (hb : s.status.state = .busy)
    (hf : s.inFlight = none) : step s = u.moveAt.run := by
  rw [h.step_eq]
  obtain ⟨a, rfl⟩ := h.eq_withAgenda
  rcases State.engineMove_cases { s with agenda := a } with ⟨-, -, heq⟩ | ⟨hb' | hf', -⟩
  · rw [heq]
  · exact absurd hb hb'
  · exact absurd hf hf'

theorem State.engineNext.step_of_call {s u : State} {c : ClientCall} (h : s.engineNext u)
    (hb : s.status.state = .busy) (hf : s.inFlight = none) (hp : s.seq.pos = .call c) :
    step s = exec c.instr (u.beforeCall c) := by
  simp [h.step_eq_moveAt hb hf, State.moveAt, h.seq_eq, hp, Fetched.run]

theorem State.engineNext.step_of_settle {s u : State} (h : s.engineNext u) (hb : s.status.state = .busy)
    (hf : s.inFlight = none) (hp : s.seq.pos = .settle) : step s = exec .getVersion u := by
  simp [h.step_eq_moveAt hb hf, State.moveAt, h.seq_eq, hp, Fetched.run]

theorem State.engineNext.step_of_poll {s u : State} {e : Element} (h : s.engineNext u)
    (hb : s.status.state = .busy) (hf : s.inFlight = none) (hp : s.seq.pos = .poll e) :
    step s = .next u.pollIteration := by
  simp [h.step_eq_moveAt hb hf, State.moveAt, h.seq_eq, hp, Fetched.run]

theorem State.engineNext.step_of_pollWait {s u : State} {e : Element} (h : s.engineNext u)
    (hb : s.status.state = .busy) (hf : s.inFlight = none) (hp : s.seq.pos = .pollWait e) :
    step s = .next (u.setPos (.poll e)) := by
  simp [h.step_eq_moveAt hb hf, State.moveAt, h.seq_eq, hp, Fetched.run]

/-! ### Client operations -/

/-- Settles O27: a Write of the one byte 0x5A begins, in the handshake's phase. -/
theorem syncBeginsHandshake : Obligations.SyncBeginsHandshake :=
  fun s => congrArg Host.Outcome.next (s.beginWrite_cons .handshake syncByte [])

/-- Settles O33: each client operation by its instruction, and the settle wait by GET_VERSION. -/
theorem stepRunsClientCall : Obligations.StepRunsClientCall := fun _ _ h hb hf =>
  ⟨h.step_of_call hb hf, h.step_of_call hb hf, h.step_of_call hb hf, h.step_of_call hb hf, h.step_of_call hb hf,
    h.step_of_settle hb hf⟩

/-! ### The start of a poll iteration (R154, R155, R262) -/

theorem State.limitReached_iff (s : State) :
    s.limitReached = true ↔ pollBound s.params.ackPollLimit = some s.pcnt := by
  unfold State.limitReached
  cases s.params.ackPollLimit with
  | unbounded => simp [pollBound]
  | polls m =>
    simp only [pollBound, beq_iff_eq, Option.some.injEq]
    exact eq_comm

theorem State.pollIteration_cancel {s : State} (hc : s.status.cancelPend = true) :
    s.pollIteration = (s.setCancel false).raise .cancelled s.lastByte := by
  simp [State.pollIteration, hc]

theorem State.pollIteration_timeout {s : State} (hc : s.status.cancelPend = false) (hl : s.limitReached = true) :
    s.pollIteration = s.raise .linkTimeout s.lastByte := by
  simp [State.pollIteration, hc, hl]

theorem State.pollIteration_poll {s : State} (hc : s.status.cancelPend = false) (hl : s.limitReached = false) :
    s.pollIteration = s.issue s.params.dummyTx true := by
  simp [State.pollIteration, hc, hl]

/-- Where a poll iteration stops, the error records LASTRX: its byte, or 0 if it is not valid (R154, R155, R258). -/
theorem State.raise_lastByte (s : State) (err : ErrCode) : s.raise err s.lastByte = { s with
    status := { s.status with err := err, state := .error }
    errInfo := ⟨if s.lastRx.valid then s.lastRx.byte else 0#8, s.lastRx.valid, s.status.phase, s.status.step,
      s.status.curImg⟩
    errPage := s.page
    seq := { s.seq with pos := .error } } := by
  cases hv : s.lastRx.valid <;> simp [State.raise, State.lastByte, hv]

/-- Settles O38: the three branches of a poll iteration, the error records of the first two written out. -/
theorem pollIterationOrder : Obligations.PollIterationOrder := by
  intro s u e h hb hf hp
  obtain ⟨hstatus, hparams, hpcnt⟩ : u.status = s.status ∧ u.params = s.params ∧ u.pcnt = s.pcnt := by
    obtain ⟨a, rfl⟩ := h.eq_withAgenda
    exact ⟨rfl, rfl, rfl⟩
  rw [h.step_of_poll hb hf hp, ← hstatus, ← hparams, ← hpcnt]
  refine ⟨fun hc => ?_, fun hc hn => ?_, fun hc hn => ?_⟩
  · rw [State.pollIteration_cancel hc]
    exact congrArg Host.Outcome.next ((u.setCancel false).raise_lastByte .cancelled)
  · rw [State.pollIteration_timeout hc (u.limitReached_iff.mpr hn), State.raise_lastByte]
  · rw [State.pollIteration_poll hc (Bool.eq_false_iff.mpr (mt u.limitReached_iff.mp hn)), State.issue]

/-! ### The byte a poll returns (R150, R151) -/

/-- A poll's byte closes the transfer and goes to the ack wait. -/
theorem State.receive_poll {s : State} {r : Request} {e : Element} (hf : s.inFlight = some r)
    (hp : s.seq.pos = .poll e) (b : Byte) :
    s.receive (.byte b) = (s.settleTransfer r (some (.byte b))).pollByte e b := by
  rw [State.receive_byte s r b hf]
  simp [State.gotByte, State.settleTransfer, hp]

theorem State.pollByte_ack (s : State) (e : Element) :
    s.pollByte e ackByte = (s.countPoll ackByte).resolve e .ack := rfl

theorem State.pollByte_nack (s : State) (e : Element) :
    s.pollByte e nackByte = (s.countPoll nackByte).resolve e .nack := rfl

theorem discarded_iff (b : Byte) : discarded b = true ↔ b ≠ ackByte ∧ b ≠ nackByte := by
  simp [discarded]

theorem State.pollByte_discarded {b : Byte} (hd : discarded b = true) (s : State) (e : Element) :
    s.pollByte e b = (s.countPoll b).setPos (.pollWait e) := by
  obtain ⟨hack, hnack⟩ := (discarded_iff b).mp hd
  rw [State.pollByte, if_neg hack, if_neg hnack]

/-- Settles O34: the poll is counted and the wait resolves to ACK. -/
theorem ackResolvesPoll : Obligations.AckResolvesPoll := by
  intro s r e hf hp
  rw [exec_ack, State.receive_poll hf hp, State.pollByte_ack]
  rfl

/-- Settles O35: the poll is counted and the wait resolves to NACK. -/
theorem nackResolvesPoll : Obligations.NackResolvesPoll := by
  intro s r e hf hp
  rw [exec_nack, State.receive_poll hf hp, State.pollByte_nack]
  rfl

/-- Settles O37: the poll is counted and its wait comes next. -/
theorem otherByteDiscarded : Obligations.OtherByteDiscarded := by
  intro s u r e b h hp hack hnack
  rw [← h.seq_eq] at hp
  rw [h.step_eq, State.receive_poll h.inFlight_eq hp, State.pollByte_discarded ((discarded_iff b).mpr ⟨hack, hnack⟩)]
  rfl

/-! ### The end of a response Read (R170, R175) -/

theorem State.receive_read_last {s : State} {r : Request} {got : List Byte} (hf : s.inFlight = some r)
    (hp : s.seq.pos = .read 0 got) (b : Byte) :
    s.receive (.byte b) = (s.settleTransfer r (some (.byte b))).readDone (got ++ [b]) := by
  rw [State.receive_byte s r b hf]
  simp [State.gotByte, State.settleTransfer, hp]

/-- Settles O47: the Read's bytes but the first go to RBUF, and the ack wait begins. -/
theorem responseEnds : Obligations.ResponseEnds := by
  intro s u r m got b h hp
  rw [← h.seq_eq] at hp
  rw [h.step_eq, State.receive_read_last h.inFlight_eq hp]
  rfl

end Sys2Proof.Machine
end

section
/-! PROOFS. O42 to O44: runs of an ack wait. Every discarded byte costs a poll and its wait, and leaves the engine at the
next poll iteration with one poll more counted (`run_discards`); the three statements differ in what comes after the
bytes. -/

namespace Sys2Proof.Machine

/-! ### One poll -/

/-- The limit is not reached where it allows one more poll (R154). -/
theorem State.allowsPolls.not_limitReached {s : State} {k : Nat} (h : s.allowsPolls k) (hk : s.pcnt < k) :
    s.limitReached = false := by
  rw [← Bool.not_eq_true, State.limitReached_iff]
  exact fun hn => absurd (h _ hn) (Nat.not_le.mpr hk)

/-- A poll that neither a cancel nor the limit stops is two steps: its request, and the answer. -/
theorem run_poll {s : State} {e : Element} {x : Byte} {more : List Turn} (hb : s.status.state = .busy)
    (hf : s.inFlight = none) (hp : s.seq.pos = .poll e) (hc : s.status.cancelPend = false)
    (hl : s.limitReached = false) (hag : s.agenda = transferTurns x ++ more) (k : Nat) :
    core.run (k + 2) s = core.run k (State.pollByte { s with
      trace := s.trace ++ singleEntries s.params.dummyTx [x], agenda := more } e x) := by
  have hengine : s.engineNext { s with agenda := .link (.byte x) :: more } := .inl ⟨_, hag, rfl⟩
  have hpoll := State.pollIteration_poll (s := { s with agenda := .link (.byte x) :: more }) hc hl
  have hlink : State.answerNext (State.issue { s with agenda := .link (.byte x) :: more } s.params.dummyTx true)
      (State.issue { s with agenda := more } s.params.dummyTx true) ⟨s.params.dummyTx, true⟩ (.byte x) :=
    ⟨rfl, .inl ⟨more, rfl, rfl⟩⟩
  rw [run_of_step (hengine.step_of_poll hb hf hp), hpoll, run_of_step hlink.step_eq,
    State.receive_poll hlink.inFlight_eq hp]
  simp [State.issue, State.settleTransfer, singleEntries, hf]

/-! ### Discarded polls -/

/-- LASTRX after polls that returned `ds`: the last of them, or as it was (R157). -/
def LastRx.after (l : LastRx) (ds : List Byte) : LastRx := ds.foldl (fun _ d => ⟨d, true⟩) l

@[simp] theorem LastRx.after_nil (l : LastRx) : l.after [] = l := rfl

@[simp] theorem LastRx.after_cons (l : LastRx) (d : Byte) (ds : List Byte) :
    l.after (d :: ds) = LastRx.after ⟨d, true⟩ ds := rfl

@[simp] theorem LastRx.after_concat (l : LastRx) (ds : List Byte) (d : Byte) : l.after (ds ++ [d]) = ⟨d, true⟩ := by
  simp [LastRx.after]

/-- The state at the poll iteration after polls that discarded `ds`, with `more` left of the agenda (R151, R157). -/
def State.afterDiscards (s : State) (ds : List Byte) (more : List Turn) : State :=
  { s with
    pcnt := s.pcnt + ds.length
    lastRx := s.lastRx.after ds
    trace := s.trace ++ singleEntries s.params.dummyTx ds
    agenda := more }

/-- Polls that discard `d` and then `ds` are polls that discard `d :: ds`. -/
theorem State.afterDiscards_cons (s : State) (d : Byte) (ds : List Byte) (turns more : List Turn) :
    (s.afterDiscards [d] turns).afterDiscards ds more = s.afterDiscards (d :: ds) more := by
  simp [State.afterDiscards, singleEntries, Nat.add_assoc, Nat.add_comm 1]

/-- A discarded poll is three steps: the poll's two, and its wait (R151, R158). -/
theorem run_discard {s : State} {e : Element} {d : Byte} {more : List Turn} (hb : s.status.state = .busy)
    (hf : s.inFlight = none) (hp : s.seq.pos = .poll e) (hc : s.status.cancelPend = false)
    (hl : s.limitReached = false) (hd : discarded d = true) (hag : s.agenda = discardedTurns [d] ++ more) (k : Nat) :
    core.run (k + 3) s = core.run k (s.afterDiscards [d] more) := by
  rw [run_poll (more := .engine :: more) hb hf hp hc hl hag (k + 1), State.pollByte_discarded hd]
  have hwait : State.engineNext
      (State.setPos (State.afterDiscards s [d] (.engine :: more)) (.pollWait e))
      (State.setPos (s.afterDiscards [d] more) (.pollWait e)) := .inl ⟨more, rfl, rfl⟩
  have hback : ((s.afterDiscards [d] more).setPos (.pollWait e)).setPos (.poll e) = s.afterDiscards [d] more := by
    simp [State.setPos, State.afterDiscards, ← hp]
  rw [← hback]
  exact run_of_step (hwait.step_of_pollWait hb hf rfl) k

/-- An ack wait's discarded bytes, by induction on them: as long as the limit allows their polls, the engine stands at the
next poll iteration. -/
theorem run_discards {s : State} {e : Element} {ds : List Byte} {more : List Turn} (hb : s.status.state = .busy)
    (hf : s.inFlight = none) (hp : s.seq.pos = .poll e) (hc : s.status.cancelPend = false)
    (hds : ∀ d ∈ ds, discarded d = true) (hlim : s.allowsPolls (s.pcnt + ds.length))
    (hag : s.agenda = discardedTurns ds ++ more) (k : Nat) :
    core.run (3 * ds.length + k) s = core.run k (s.afterDiscards ds more) := by
  induction ds generalizing s with
  | nil =>
    obtain rfl : s.agenda = more := hag
    simp [State.afterDiscards, singleEntries]
  | cons d ds ih =>
    obtain ⟨hd, hds⟩ := List.forall_mem_cons.mp hds
    have hl : s.limitReached = false := hlim.not_limitReached (by simp)
    have hsteps : 3 * (d :: ds).length + k = 3 * ds.length + k + 3 := by
      rw [List.length_cons]
      omega
    have hlim' : (s.afterDiscards [d] (discardedTurns ds ++ more)).allowsPolls (s.pcnt + 1 + ds.length) := by
      rwa [List.length_cons, Nat.add_comm ds.length, ← Nat.add_assoc] at hlim
    rw [hsteps, run_discard (more := discardedTurns ds ++ more) hb hf hp hc hl hd hag,
      ih (s := s.afterDiscards [d] (discardedTurns ds ++ more)) hb hf hp hc hds hlim' rfl, State.afterDiscards_cons]

/-! ### The three ends of an ack wait -/

/-- Settles O42: the discarded polls, and then the poll that ACK resolves. -/
theorem ackWaitResolves : Obligations.AckWaitResolves := by
  intro s e ds more hb hf hp hc hn hds hlim hag
  rw [List.append_assoc] at hag
  have hlim' : s.allowsPolls (s.pcnt + ds.length) := fun n hbound => by
    have hle := hlim n hbound
    omega
  have hl : (s.afterDiscards ds (transferTurns 0x79#8 ++ more)).limitReached = false :=
    State.allowsPolls.not_limitReached (k := ds.length + 1) hlim (by simp [State.afterDiscards, hn])
  rw [run_discards hb hf hp hc hds hlim' hag,
    run_poll (x := ackByte) (s := s.afterDiscards ds (transferTurns 0x79#8 ++ more)) hb hf hp hc hl rfl 0,
    State.pollByte_ack]
  simp [Host.Core.run, State.resolve, State.countPoll, State.setHs, State.afterDiscards, singleEntries, ackByte, hn]

/-- Settles O43: after the discarded polls the count is the limit, and the next poll iteration raises LINK_TIMEOUT. -/
theorem ackWaitTimesOut : Obligations.AckWaitTimesOut := by
  intro s e ds d more hb hf hp hc hn hds hbound hag
  have hlen : s.pcnt + (ds ++ [d]).length = ds.length + 1 := by simp [hn]
  have hlim : s.allowsPolls (s.pcnt + (ds ++ [d]).length) := fun n hn' => by
    rw [hlen]
    exact le_of_eq (Option.some.inj (hbound.symm.trans hn'))
  have hl : (s.afterDiscards (ds ++ [d]) more).limitReached = true :=
    (State.limitReached_iff _).mpr (hbound.trans (congrArg some hlen.symm))
  have hengine : (s.afterDiscards (ds ++ [d]) (.engine :: more)).engineNext (s.afterDiscards (ds ++ [d]) more) :=
    .inl ⟨more, rfl, rfl⟩
  have hrun := run_discards hb hf hp hc hds hlim hag 1
  rw [List.length_append, List.length_singleton] at hrun
  rw [hrun, run_of_step (hengine.step_of_poll hb hf hp) 0,
    State.pollIteration_timeout (s := s.afterDiscards (ds ++ [d]) more) hc hl, State.raise_lastByte]
  simp [Host.Core.run, State.afterDiscards, hn]

/-- Settles O44: without a limit the run of the discarded polls is any length. -/
theorem unboundedWaitNeverEnds : Obligations.UnboundedWaitNeverEnds := by
  intro s e ds more hb hf hp hc hunb hds hag
  have hlim : s.allowsPolls (s.pcnt + ds.length) := fun n hn => by simp [hunb, pollBound] at hn
  exact ⟨_, run_discards hb hf hp hc hds hlim hag 0, rfl, hp, hf, rfl, rfl, rfl⟩

end Sys2Proof.Machine
end

section
/-! PROOFS. O28, O45 and O46: the seams inside `send_command`. A command begins with its SYNC Write, and the answer to an
echo returns the ack wait to its caller, which raises after NACK and goes on to the next element after ACK. -/

namespace Sys2Proof.Machine

/-! ### Beginning a command (R171, R191 to R193) -/

theorem State.beginVersion_eq (s : State) : s.beginVersion = { s with
    status := { s.status with step := .getVersion, phase := .sync }
    version := ⟨0#8, false⟩
    seq := { s.seq with cmd := .getVersion, blocks := [], pos := .write .sync syncByte [] } } :=
  State.beginCommand_eq _ .getVersion []

theorem State.beginId_eq (s : State) : s.beginId = { s with
    status := { s.status with step := .getId, phase := .sync }
    chipId := ⟨0#16, false⟩
    seq := { s.seq with cmd := .getId, blocks := [], pos := .write .sync syncByte [] } } :=
  State.beginCommand_eq _ .getId []

theorem State.beginErase_eq (s : State) : s.beginErase = { s with
    status := { s.status with step := .globalErase, phase := .sync }
    seq := { s.seq with
      cmd := .globalErase, blocks := [[0xFF#8, 0xFF#8, 0x00#8]], pos := .write .sync syncByte [] } } := by
  rw [← eraseBlockAndChipId.left]
  exact State.beginCommand_eq _ .globalErase [eraseBlock]

/-- Settles O28: each of the three is `send_command` begun with its blocks, after its own first statements. -/
theorem commandsBegin : Obligations.CommandsBegin := fun s =>
  ⟨congrArg Host.Outcome.next s.beginVersion_eq, congrArg Host.Outcome.next s.beginId_eq,
    congrArg Host.Outcome.next s.beginErase_eq⟩

/-! ### The return of an ack wait (R152, R153) -/

theorem State.gotByte_echo {s : State} {e : Element} (hp : s.seq.pos = .echo e) (b : Byte) :
    s.gotByte b = s.ackReturn e := by
  simp [State.gotByte, hp]

theorem State.ackReturn_ack {s : State} (h : s.ackres = some .ack) (e : Element) : s.ackReturn e = s.ackTrue e := by
  rcases s.ackReturn_cases e with ⟨-, heq⟩ | ⟨hne, -⟩
  · exact heq
  · exact absurd h hne

theorem State.ackReturn_nack {s : State} (h : s.ackres = some .nack) (e : Element) : s.ackReturn e = s.ackFalse e := by
  rcases s.ackReturn_cases e with ⟨hack, -⟩ | ⟨-, heq⟩
  · simp [h] at hack
  · exact heq

/-- Taking the answer off the agenda leaves ACKRES alone. -/
theorem State.answerNext.ackres_eq {s u : State} {r : Request} {a : LinkAnswer} (h : s.answerNext u r a) :
    u.ackres = s.ackres := by
  obtain ⟨-, ⟨rest, -, rfl⟩ | ⟨-, -, rfl⟩⟩ := h <;> rfl

/-- Whatever byte answers the echo, it closes the transfer and the ack wait returns. -/
theorem State.answerNext.step_of_echo {s u : State} {r : Request} {e : Element} {b : Byte}
    (h : s.answerNext u r (.byte b)) (hp : s.seq.pos = .echo e) :
    step s = .next ((u.settleTransfer r (some (.byte b))).ackReturn e) := by
  rw [← h.seq_eq] at hp
  rw [h.step_eq, State.receive_byte u r b h.inFlight_eq, State.gotByte_echo (by exact hp)]

theorem State.answerNext.step_of_echo_ack {s u : State} {r : Request} {e : Element} {b : Byte}
    (h : s.answerNext u r (.byte b)) (hp : s.seq.pos = .echo e) (ha : s.ackres = some .ack) :
    step s = .next ((u.settleTransfer r (some (.byte b))).ackTrue e) := by
  have hu : (u.settleTransfer r (some (.byte b))).ackres = some .ack := h.ackres_eq.trans ha
  rw [h.step_of_echo hp, State.ackReturn_ack hu]

theorem State.answerNext.step_of_echo_nack {s u : State} {r : Request} {e : Element} {b : Byte}
    (h : s.answerNext u r (.byte b)) (hp : s.seq.pos = .echo e) (ha : s.ackres = some .nack) :
    step s = .next ((u.settleTransfer r (some (.byte b))).ackFalse e) := by
  have hu : (u.settleTransfer r (some (.byte b))).ackres = some .nack := h.ackres_eq.trans ha
  rw [h.step_of_echo hp, State.ackReturn_nack hu]

/-! ### After NACK (R176, R190) -/

/-- The error a NACK raises is told by its place alone: `connect()` or a command (R252, R253). -/
theorem State.ackFalse_eq (s : State) (e : Element) :
    s.ackFalse e = s.raise (if e = .handshake then .handshakeFailed else .protocolNack) (some nackByte) := by
  cases e <;> rfl

/-- Settles O45: the ack wait returns `false`, and the error is raised with the byte 0x1F. -/
theorem nackFailsTheOperation : Obligations.NackFailsTheOperation := by
  intro s u r e b h hp ha
  rw [h.step_of_echo_nack hp ha, State.ackFalse_eq]
  rfl

/-! ### After ACK (R172, R173, R175) -/

theorem State.ackTrue_sync (s : State) : s.ackTrue .sync
    = (s.setPhase .cmd).setPos (.write .cmd s.seq.cmd.opcode [not8 s.seq.cmd.opcode]) := rfl

theorem State.ackTrue_cmd (s : State) : s.ackTrue .cmd = s.afterBlock .block0 := rfl

theorem State.ackTrue_block0 (s : State) : s.ackTrue .block0 = s.afterBlock .block1 := rfl

/-- With a block left, its Write begins and it waits no longer (R173). -/
theorem State.afterBlock_cons {s : State} {b : Byte} {bs : List Byte} {rest : List (List Byte)}
    (hbl : s.seq.blocks = (b :: bs) :: rest) (e : Element) :
    s.afterBlock e = { s with
      status := { s.status with phase := e.phase }
      seq := { s.seq with blocks := rest, pos := .write e b bs } } := by
  rw [State.afterBlock, hbl]
  rfl

/-- With no block left, the Read of the response begins if the command has one (R175). -/
theorem State.afterBlock_response {s : State} {n : Nat} (hbl : s.seq.blocks = [])
    (hn : s.seq.cmd.responseLength = n + 1) (e : Element) :
    s.afterBlock e = (s.setPhase .resp).setPos (.read (n + 1) []) := by
  simp [State.afterBlock, hbl, hn]

/-- Settles O46: each of the four seams is the ack wait's return to its caller. -/
theorem commandElementsInOrder : Obligations.CommandElementsInOrder := by
  intro s u r x h ha
  rw [← h.seq_eq]
  refine ⟨fun hp => ?_, fun b bs rest hp hbl => ?_, fun b bs rest hp hbl => ?_, fun n hp hbl hn => ?_⟩ <;>
    rw [h.seq_eq] at hp <;> rw [h.step_of_echo_ack hp ha]
  · rw [State.ackTrue_sync]
    rfl
  · rw [State.ackTrue_cmd, State.afterBlock_cons (by exact hbl)]
    rfl
  · rw [State.ackTrue_block0, State.afterBlock_cons (by exact hbl)]
    rfl
  · rw [State.ackTrue_cmd, State.afterBlock_response (by exact hbl) (by exact hn)]
    rfl

end Sys2Proof.Machine
end

section
/-! PROOFS. O52: a whole run of GET_VERSION, put together from the runs of its parts: the acceptance, the Writes of the SYNC
and of the frame, and the Read of the response, each with an ack wait after it that its first poll resolves. -/

namespace Sys2Proof.Machine

/-! ### Runs put together -/

/-- A run that has come to `t` goes on as a run from `t`. -/
theorem run_of_run {s t : State} {m : Nat} (h : core.run m s = .next t) (k : Nat) :
    core.run (m + k) s = core.run k t := by
  induction m generalizing s with
  | zero =>
    cases h
    rw [Nat.zero_add]
  | succ m ih =>
    cases hstep : step s with
    | next u =>
      rw [run_of_step hstep] at h
      rw [Nat.succ_add, run_of_step hstep, ih h]
    | fault f => simp [Host.Core.run, core, hstep] at h
    | refused f => simp [Host.Core.run, core, hstep] at h

theorem transfersTurns_append (xs ys : List Byte) : transfersTurns (xs ++ ys) = transfersTurns xs ++ transfersTurns ys :=
  List.flatMap_append

/-! ### An ack wait answered at its first poll -/

/-- Every limit allows the first poll (R154). -/
theorem State.limitReached_of_pcnt_zero {s : State} (h : s.pcnt = 0) : s.limitReached = false := by
  rw [State.limitReached, h]
  split <;> simp

/-- The state in which an ack wait returns to its caller, after one poll answered with ACK and an echo answered with `y`,
with `more` left of the agenda (R152, R153, R157). -/
def State.acked (s : State) (e : Element) (y : Byte) (more : List Turn) : State :=
  { s with
    status := { s.status with hs := .acked }
    ackres := some .ack
    pcnt := 1
    lastRx := ⟨ackByte, true⟩
    seq := { s.seq with pos := .echo e }
    trace := s.trace ++ singleEntries s.params.dummyTx [ackByte] ++ singleEntries ackByte [y]
    agenda := more }

/-- The ack wait is two transfers: the poll, which ACK resolves, and the echo. -/
theorem run_ackWait {s : State} {e : Element} {y : Byte} {more : List Turn} (hb : s.status.state = .busy)
    (hf : s.inFlight = none) (hp : s.seq.pos = .poll e) (hc : s.status.cancelPend = false) (hn : s.pcnt = 0)
    (hag : s.agenda = transfersTurns [ackByte, y] ++ more) (k : Nat) :
    core.run (k + 4) s = core.run k ((s.acked e y more).ackTrue e) := by
  have hpoll := run_poll (more := transferTurns y ++ more) hb hf hp hc (State.limitReached_of_pcnt_zero hn) hag (k + 2)
  rw [State.pollByte_ack] at hpoll
  have hecho := run_transfer (r := ⟨ackByte, true⟩) (x := y) (more := more)
    (s := State.resolve (State.countPoll { s with
      trace := s.trace ++ singleEntries s.params.dummyTx [ackByte], agenda := transferTurns y ++ more } ackByte) e .ack)
    hb hf rfl (by simp [State.resolve]) rfl k
  rw [State.gotByte_echo rfl, State.ackReturn_ack rfl] at hecho
  refine (hpoll.trans hecho).trans ?_
  simp [State.acked, State.resolve, State.countPoll, State.setHs, singleEntries, hn]

/-! ### A Write and its ack wait -/

/-- The state in which the ack wait after a Write of `sent`, answered with `xs`, returns to its caller. -/
def State.writeAcked (s : State) (e : Element) (sent xs : List Byte) (y : Byte) (more : List Turn) : State :=
  State.acked { s with trace := s.trace ++ callEntries sent xs } e y more

theorem run_write_acked {s : State} {e : Element} {b y : Byte} {rest xs : List Byte} {more : List Turn}
    (hb : s.status.state = .busy) (hf : s.inFlight = none) (hp : s.seq.pos = .write e b rest)
    (hc : s.status.cancelPend = false) (hlen : xs.length = rest.length + 1)
    (hag : s.agenda = transfersTurns (xs ++ [ackByte, y]) ++ more) (k : Nat) :
    core.run (k + (2 * xs.length + 4)) s = core.run k ((s.writeAcked e (b :: rest) xs y more).ackTrue e) := by
  rw [transfersTurns_append, List.append_assoc] at hag
  have hwait := run_ackWait (y := y) (more := more) (e := e)
    (s := State.enterAckWait { s with
      trace := s.trace ++ callEntries (b :: rest) xs, agenda := transfersTurns [ackByte, y] ++ more } e)
    hb hf rfl hc rfl rfl k
  rw [Nat.add_left_comm, run_of_run (run_write hb hf hp hlen hag) (k + 4)]
  exact hwait

/-! ### A Read and its ack wait (R113, R175) -/

/-- A Read's run, by induction on the transfers after the next one: each keeps its byte, and the last one ends the Read. -/
theorem run_read {s : State} {n : Nat} {got xs : List Byte} {more : List Turn} (hb : s.status.state = .busy)
    (hf : s.inFlight = none) (hp : s.seq.pos = .read n got) (hlen : xs.length = n + 1)
    (hag : s.agenda = transfersTurns xs ++ more) :
    core.run (2 * xs.length) s = .next (State.readDone { s with
      trace := s.trace ++ callEntries (List.replicate xs.length s.params.dummyTx) xs, agenda := more } (got ++ xs)) := by
  induction n generalizing s got xs with
  | zero =>
    obtain ⟨x, rfl⟩ := List.length_eq_one_iff.mp hlen
    have hlast := run_transfer (r := ⟨s.params.dummyTx, true⟩) hb hf (by rw [hp]; rfl) (by simp [hp]) hag 0
    simpa [State.gotByte, hp, Host.Core.run, callEntries] using hlast
  | succ n ih =>
    obtain ⟨x, xs, rfl⟩ := List.exists_cons_of_length_eq_add_one hlen
    have hlen' : xs.length = n + 1 := by simpa using hlen
    rw [transfersTurns, List.flatMap_cons, List.append_assoc] at hag
    have hfirst := run_transfer (r := ⟨s.params.dummyTx, false⟩) hb hf (by rw [hp]; rfl) (by simp [hp]) hag
      (2 * xs.length)
    have hrest := ih (xs := xs) (got := got ++ [x])
      (s := State.setPos { s with
        trace := s.trace ++ [⟨⟨s.params.dummyTx, false⟩, some (.byte x)⟩], agenda := transfersTurns xs ++ more }
        (.read n (got ++ [x])))
      hb hf rfl hlen' rfl
    simp only [State.gotByte, hp] at hfirst
    rw [List.length_cons, Nat.mul_succ]
    refine (hfirst.trans hrest).trans ?_
    simp [State.readDone, State.enterAckWait, State.setHs, callEntries, List.replicate_succ, hlen']

/-- The state in which the ack wait after a Read that received `xs` returns to its caller: the first byte is dropped, and
the others are RBUF. -/
def State.readAcked (s : State) (xs : List Byte) (y : Byte) (more : List Turn) : State :=
  State.acked { s with
    rbuf := xs.drop 1
    trace := s.trace ++ callEntries (List.replicate xs.length s.params.dummyTx) xs } .resp y more

/-- After the response's ack wait the command returns to its caller (R175). -/
theorem run_read_acked {s : State} {n : Nat} {y : Byte} {xs : List Byte} {more : List Turn}
    (hb : s.status.state = .busy) (hf : s.inFlight = none) (hp : s.seq.pos = .read n [])
    (hc : s.status.cancelPend = false) (hlen : xs.length = n + 1)
    (hag : s.agenda = transfersTurns (xs ++ [ackByte, y]) ++ more) (k : Nat) :
    core.run (k + (2 * xs.length + 4)) s = core.run k (s.readAcked xs y more).commandDone := by
  rw [transfersTurns_append, List.append_assoc] at hag
  have hwait := run_ackWait (y := y) (more := more) (e := .resp)
    (s := State.readDone { s with
      trace := s.trace ++ callEntries (List.replicate xs.length s.params.dummyTx) xs
      agenda := transfersTurns [ackByte, y] ++ more } xs)
    hb hf rfl hc rfl rfl k
  rw [Nat.add_left_comm, run_of_run (run_read hb hf hp hlen hag) (k + 4)]
  exact hwait

/-! ### The start of every command (R171, R172) -/

/-- The state in which the ack wait of the command frame returns: the SYNC was sent and acknowledged, then the frame, and
`x0` to `x4` answered what the engine sent. -/
def State.frameAcked (s : State) (x0 x1 x2 x3 x4 : Byte) (more : List Turn) : State :=
  { s with
    status := { s.status with hs := .acked, phase := .cmd }
    ackres := some .ack
    pcnt := 1
    lastRx := ⟨ackByte, true⟩
    seq := { s.seq with pos := .echo .cmd }
    trace := s.trace ++ callEntries [syncByte] [x0] ++ singleEntries s.params.dummyTx [ackByte]
      ++ singleEntries ackByte [x1] ++ callEntries (commandBytes s.seq.cmd.opcode) [x2, x3]
      ++ singleEntries s.params.dummyTx [ackByte] ++ singleEntries ackByte [x4]
    agenda := more }

theorem run_frame {s : State} {x0 x1 x2 x3 x4 : Byte} {more : List Turn} (hb : s.status.state = .busy)
    (hf : s.inFlight = none) (hp : s.seq.pos = .write .sync syncByte []) (hc : s.status.cancelPend = false)
    (hag : s.agenda = transfersTurns [x0, ackByte, x1, x2, x3, ackByte, x4] ++ more) (k : Nat) :
    core.run (k + 14) s = core.run k ((s.frameAcked x0 x1 x2 x3 x4 more).afterBlock .block0) := by
  have hsync := run_write_acked (xs := [x0]) (y := x1) (more := transfersTurns [x2, x3, ackByte, x4] ++ more)
    hb hf hp hc rfl hag (k + 8)
  have hframe := run_write_acked (e := .cmd) (xs := [x2, x3]) (y := x4) (more := more)
    (s := (s.writeAcked .sync [syncByte] [x0] x1 (transfersTurns [x2, x3, ackByte, x4] ++ more)).ackTrue .sync)
    hb hf rfl hc rfl rfl k
  exact hsync.trans hframe

/-! ### A command without blocks (R175) -/

/-- The state in which the ack wait of the response of a command without blocks returns: after the frame, the response was
the bytes `xs`, and `x5` answered the last echo. -/
def State.responseAcked (s : State) (x0 x1 x2 x3 x4 : Byte) (xs : List Byte) (x5 : Byte) (more : List Turn) : State :=
  { s with
    status := { s.status with hs := .acked, phase := .resp }
    rbuf := xs.drop 1
    ackres := some .ack
    pcnt := 1
    lastRx := ⟨ackByte, true⟩
    seq := { s.seq with pos := .echo .resp }
    trace := (s.frameAcked x0 x1 x2 x3 x4 more).trace ++ callEntries (List.replicate xs.length s.params.dummyTx) xs
      ++ singleEntries s.params.dummyTx [ackByte] ++ singleEntries ackByte [x5]
    agenda := more }

theorem run_response {s : State} {n : Nat} {x0 x1 x2 x3 x4 x5 : Byte} {xs : List Byte} {more : List Turn}
    (hb : s.status.state = .busy) (hf : s.inFlight = none) (hp : s.seq.pos = .write .sync syncByte [])
    (hc : s.status.cancelPend = false) (hbl : s.seq.blocks = []) (hn : s.seq.cmd.responseLength = n + 1)
    (hlen : xs.length = n + 2)
    (hag : s.agenda = transfersTurns ([x0, ackByte, x1, x2, x3, ackByte, x4] ++ (xs ++ [ackByte, x5])) ++ more) (k : Nat) :
    core.run (k + (2 * xs.length + 4) + 14) s
      = core.run k (s.responseAcked x0 x1 x2 x3 x4 xs x5 more).commandDone := by
  rw [transfersTurns_append, List.append_assoc] at hag
  have hframe := run_frame hb hf hp hc hag (k + (2 * xs.length + 4))
  rw [State.afterBlock_response (by exact hbl) (by exact hn)] at hframe
  have hresp := run_read_acked (n := n + 1) (y := x5) (more := more)
    (s := ((s.frameAcked x0 x1 x2 x3 x4 (transfersTurns (xs ++ [ackByte, x5]) ++ more)).setPhase .resp).setPos
      (.read (n + 1) []))
    hb hf rfl hc hlen rfl k
  exact hframe.trans hresp

/-! ### The frame and the return of GET_VERSION (R82, R191) -/

theorem commandBytes_getVersion : commandBytes WireCmd.getVersion.opcode = [0x01#8, 0xFE#8] := by decide

theorem State.commandDone_getVersion {s : State} (h : s.seq.cmd = .getVersion) : s.commandDone = s.versionDone := by
  rw [State.commandDone, h]

/-- `get_bootloader_version()` returns in any op but FLASH_RUN: the op is complete (R191, R231). -/
theorem State.versionDone_standalone {s : State} {v : Byte} (hop : s.status.curOp ≠ HostOp.flashRun.code)
    (hr : s.rbuf = [v]) :
    s.versionDone = State.complete (State.emit { s with version := ⟨v, true⟩ } (.version v)) := by
  simp [State.versionDone, State.inFlashRun, hop, hr]

/-! ### The acceptance of a host op (R220) -/

theorem State.ctrlWrite_of_accepts {s : State} (h : s.accepts) (code : BitVec 4) (run : State → State) :
    s.ctrlWrite code run = run (s.acceptFields code) := by
  rw [State.ctrlWrite]
  rcases h with hs | hs <;> rw [hs]

theorem State.startOp_of_checkArgs {s : State} {op : HostOp} (h : op.checkArgs s = true) :
    s.startOp op = (s.setState .busy).setPos (op.body s) := if_pos h

/-- The state in which an accepted host op is about to begin its body, with `more` left of the agenda. -/
def State.accepted (s : State) (op : HostOp) (more : List Turn) : State :=
  { s with
    status := { s.status with state := .busy, curOp := op.code, step := .none, phase := .none, cancelPend := false }
    seq := { s.seq with pos := op.body s }
    agenda := more }

/-- The six ops that have a body differ in their code and their body alone (R222 to R227). -/
theorem exec_hostOp (op : HostOp) (ign : BitVec 28) (s : State) :
    exec (ctrlInstr op.code ign) s = .next (s.ctrlWrite op.code (fun t => t.startOp op)) := by
  cases op <;> rfl

theorem exec_hostOp_of_accepts {s : State} {op : HostOp} (h : s.accepts) (hargs : op.checkArgs s = true) (ign : BitVec 28) :
    exec (ctrlInstr op.code ign) s = .next (s.accepted op s.agenda) := by
  have hstart : (s.acceptFields op.code).startOp op = s.accepted op s.agenda := by
    cases op <;> exact State.startOp_of_checkArgs hargs
  rw [exec_hostOp, State.ctrlWrite_of_accepts h, hstart]

theorem step_hostOp {s : State} {op : HostOp} {ign : BitVec 28} {more : List Turn} (h : s.accepts)
    (hargs : op.checkArgs s = true) (hag : s.agenda = .regWrite 0x0#4 (ctrlWord op.code ign) :: more) :
    step s = .next (s.accepted op more) := by
  have hwrite : s.turnNext { s with agenda := more } (.regWrite 0x0#4 (ctrlWord op.code ign)) := ⟨_, hag, rfl⟩
  rw [hwrite.step_eq, State.takeTurn, State.hostWrite, if_pos rfl, decodeCtrl_ctrlWord]
  exact exec_hostOp_of_accepts (s := { s with agenda := more }) h hargs ign

/-- Op GET_VERSION up to its first transfer is two steps: its acceptance, and the engine's move to `send_command`. -/
theorem run_opGetVersion {s : State} {ign : BitVec 28} {more : List Turn} (h : s.accepts) (hf : s.inFlight = none)
    (hag : s.agenda = .regWrite 0x0#4 (ctrlWord HostOp.getVersion.code ign) :: .engine :: more) (k : Nat) :
    core.run (k + 2) s = core.run k (s.accepted .getVersion more).beginVersion := by
  have hengine : (s.accepted .getVersion (.engine :: more)).engineNext (s.accepted .getVersion more) :=
    .inl ⟨more, rfl, rfl⟩
  have hcall : step (s.accepted .getVersion (.engine :: more)) = .next (s.accepted .getVersion more).beginVersion :=
    hengine.step_of_call (c := .getVersion) rfl hf rfl
  rw [run_of_step (step_hostOp h rfl hag), run_of_step hcall]

/-- Settles O52: the acceptance, the SYNC, the frame, the response, and the return that completes the op. -/
theorem getVersionRun : Obligations.GetVersionRun := by
  intro s ign x0 x1 x2 x3 x4 x5 m v more h hf hag
  have hbegin := run_opGetVersion h hf hag 22
  have hcommand := run_response (x0 := x0) (x1 := x1) (x2 := x2) (x3 := x3) (x4 := x4) (x5 := x5) (xs := [m, v]) (n := 0)
    (more := more) (s := (s.accepted .getVersion
      (transfersTurns [x0, ackByte, x1, x2, x3, ackByte, x4, m, v, ackByte, x5] ++ more)).beginVersion)
    rfl hf rfl rfl rfl rfl rfl rfl 0
  have hop : HostOp.getVersion.code ≠ HostOp.flashRun.code := by decide
  rw [State.commandDone_getVersion (by rfl), State.versionDone_standalone (by exact hop) (by rfl)] at hcommand
  rw [State.beginVersion_eq] at hbegin hcommand
  refine ⟨_, hbegin.trans hcommand, rfl, hf, ?_, rfl, rfl, rfl, rfl, rfl, rfl, rfl, rfl, rfl, rfl⟩
  rw [← commandBytes_getVersion]
  rfl

end Sys2Proof.Machine
end

section
/-! PROOFS. O48 to O51: the seams after `send_command`. The answer to the last echo of an operation returns it to its caller,
which ends a standalone op and, in FLASH_RUN or with pages left, goes on with the next operation. -/

namespace Sys2Proof.Machine

/-! ### The step in which an operation returns (R170, R190) -/

theorem State.commandDone_getId {s : State} (h : s.seq.cmd = .getId) : s.commandDone = s.idDone := by
  rw [State.commandDone, h]

theorem State.commandDone_globalErase {s : State} (h : s.seq.cmd = .globalErase) : s.commandDone = s.eraseDone := by
  rw [State.commandDone, h]

theorem State.commandDone_writeMemory {s : State} (h : s.seq.cmd = .writeMemory) : s.commandDone = s.pageDone := by
  rw [State.commandDone, h]

/-- With no block left and no response to read, the command returns (R175). -/
theorem State.afterBlock_return {s : State} (hbl : s.seq.blocks = []) (hn : s.seq.cmd.responseLength = 0) (e : Element) :
    s.afterBlock e = s.commandDone := by
  simp [State.afterBlock, hbl, hn]

/-- Taking the answer off the agenda changes the agenda only. -/
theorem State.answerNext.eq_withAgenda {s u : State} {r : Request} {a : LinkAnswer} (h : s.answerNext u r a) :
    ∃ ag, u = { s with agenda := ag } := by
  obtain ⟨-, ⟨rest, -, rfl⟩ | ⟨-, -, rfl⟩⟩ := h <;> exact ⟨_, rfl⟩

section Returns

variable {s u : State} {r : Request} {x : Byte}

theorem State.answerNext.step_of_connected (h : s.answerNext u r (.byte x)) (ha : s.ackres = some .ack)
    (hp : s.seq.pos = .echo .handshake) :
    step s = .next (u.settleTransfer r (some (.byte x))).connectDone := h.step_of_echo_ack hp ha

theorem State.answerNext.step_of_version (h : s.answerNext u r (.byte x)) (ha : s.ackres = some .ack)
    (hp : s.seq.pos = .echo .resp) (hc : s.seq.cmd = .getVersion) :
    step s = .next (u.settleTransfer r (some (.byte x))).versionDone := by
  rw [← h.seq_eq] at hc
  rw [h.step_of_echo_ack hp ha, State.ackTrue, State.commandDone_getVersion (by exact hc)]

theorem State.answerNext.step_of_id (h : s.answerNext u r (.byte x)) (ha : s.ackres = some .ack)
    (hp : s.seq.pos = .echo .resp) (hc : s.seq.cmd = .getId) :
    step s = .next (u.settleTransfer r (some (.byte x))).idDone := by
  rw [← h.seq_eq] at hc
  rw [h.step_of_echo_ack hp ha, State.ackTrue, State.commandDone_getId (by exact hc)]

theorem State.answerNext.step_of_erased (h : s.answerNext u r (.byte x)) (ha : s.ackres = some .ack)
    (hp : s.seq.pos = .echo .block0) (hc : s.seq.cmd = .globalErase) (hbl : s.seq.blocks = []) :
    step s = .next (u.settleTransfer r (some (.byte x))).eraseDone := by
  rw [← h.seq_eq] at hc hbl
  rw [h.step_of_echo_ack hp ha, State.ackTrue, State.afterBlock_return (by exact hbl) (by exact congrArg _ hc),
    State.commandDone_globalErase (by exact hc)]

theorem State.answerNext.step_of_pageSent (h : s.answerNext u r (.byte x)) (ha : s.ackres = some .ack)
    (hp : s.seq.pos = .echo .block1) (hc : s.seq.cmd = .writeMemory) (hbl : s.seq.blocks = []) :
    step s = .next (u.settleTransfer r (some (.byte x))).pageDone := by
  rw [← h.seq_eq] at hc hbl
  rw [h.step_of_echo_ack hp ha, State.ackTrue, State.afterBlock_return (by exact hbl) (by exact congrArg _ hc),
    State.commandDone_writeMemory (by exact hc)]

end Returns

/-! ### The return in a standalone op (R231) -/

theorem State.connectDone_standalone {s : State} (hop : s.status.curOp ≠ HostOp.flashRun.code) :
    s.connectDone = (s.setConnected true).complete := by
  simp [State.connectDone, State.inFlashRun, hop]

theorem State.idDone_standalone {s : State} {hi lo : Byte} (hop : s.status.curOp ≠ HostOp.flashRun.code)
    (hr : s.rbuf = [idMarker, hi, lo]) :
    s.idDone = State.complete (State.emit { s with chipId := ⟨chipIdOf hi lo, true⟩ } (.chipId (chipIdOf hi lo))) := by
  simp [State.idDone, State.inFlashRun, hop, hr]

/-- A wrong marker is an error whatever the op is (R192, R254). -/
theorem State.idDone_badMarker {s : State} {m hi lo : Byte} (hr : s.rbuf = [m, hi, lo]) (hm : m ≠ idMarker) :
    s.idDone = s.raise .unexpectedResponse (some m) := by
  simp [State.idDone, hr, hm]

theorem State.eraseDone_standalone {s : State} (hop : s.status.curOp ≠ HostOp.flashRun.code) :
    s.eraseDone = (s.emit .erased).complete := by
  simp [State.eraseDone, State.inFlashRun, hop]

theorem State.imageDone_standalone {s : State} (hop : s.status.curOp ≠ HostOp.flashRun.code) :
    s.imageDone = s.complete := by
  simp [State.imageDone, State.inFlashRun, hop]

/-- Settles O48: each operation's return, written out where the op is complete or the marker is wrong. -/
theorem standaloneOpsEnd : Obligations.StandaloneOpsEnd := by
  intro s u r x h ha
  obtain ⟨ag, rfl⟩ := h.eq_withAgenda
  refine ⟨fun hop hp => ?_, fun v hop hp hc hr => ?_, fun hi lo hop hp hc hr => ?_, fun m hi lo hp hc hr hm => ?_,
    fun hop hp hc hbl => ?_⟩
  · rw [h.step_of_connected ha hp, State.connectDone_standalone (by exact hop)]
    rfl
  · rw [h.step_of_version ha hp hc, State.versionDone_standalone (by exact hop) (by exact hr)]
    rfl
  · rw [h.step_of_id ha hp hc, State.idDone_standalone (by exact hop) (by exact hr)]
    rfl
  · rw [h.step_of_id ha hp hc, State.idDone_badMarker (by exact hr) hm]
    rfl
  · rw [h.step_of_erased ha hp hc hbl, State.eraseDone_standalone (by exact hop)]
    rfl

/-! ### The page loop (R195) -/

/-- An image has a page exactly if it has a byte (R138). -/
theorem State.openImage_morePages (s : State) (i : ImageSel) (base : Word) :
    (s.openImage i base).morePages = true ↔ s.imageLen i ≠ 0#32 := by
  have hlen : (s.openImage i base).imageLen i = s.imageLen i := by cases i <;> rfl
  rw [State.morePages_iff, ← Nat.not_le, npages_le_iff, ← BitVec.toNat_inj.ne]
  change ¬ ((s.openImage i base).imageLen i).toNat ≤ 256 * 0 ↔ _
  rw [hlen, Nat.mul_zero, Nat.le_zero]
  rfl

theorem State.nextPage_of_more {s : State} (h : s.morePages = true) : s.nextPage = s.beginPage := if_pos h

theorem State.nextPage_of_last {s : State} (h : ¬ s.morePages = true) : s.nextPage = s.imageDone := if_neg h

/-- Beginning a page ends where WRITE_MEMORY does, or in front of the page if that stops (log entry 9). -/
theorem State.beginsPage_of_step {s z : State} (h : step s = .next z.beginPage) : s.beginsPage z := by
  refine ⟨fun t ht => ?_, fun f hf => ?_⟩
  · have hexec : execWriteMemory z = .next t := ht
    rw [h, State.beginPage, hexec]
  · have hexec : execWriteMemory z = .fault f := hf
    rw [h, State.beginPage, hexec]
    rfl

/-- Settles O49: the page loop's head after the page is counted. -/
theorem pageAcknowledged : Obligations.PageAcknowledged := by
  intro s u v r x h ha hp hc hbl hv
  have hstep : step s = .next v.nextPage := by
    rw [h.step_of_pageSent ha hp hc hbl, hv]
    rfl
  obtain ⟨ag, rfl⟩ := h.eq_withAgenda
  have hmore : v.morePages = true ↔ (s.page + 1#32).toNat < npages (s.imageLen s.status.curImg).toNat := by
    rw [State.morePages_iff, hv]
    rfl
  refine ⟨fun hlt => ?_, fun hle hop => ?_⟩
  · exact State.beginsPage_of_step (by rw [hstep, State.nextPage_of_more (hmore.mpr hlt)])
  · have hop' : v.status.curOp ≠ HostOp.flashRun.code := by rw [hv]; exact hop
    rw [hstep, State.nextPage_of_last (by rw [hmore]; omega), State.imageDone_standalone hop']
    rfl

/-- Settles O50: the page loop's head at page 0. -/
theorem programImageBegins : Obligations.ProgramImageBegins := by
  intro s u v i base h hb hf hp hop hv
  have hstep : step s = .next v.nextPage := by
    rw [h.step_eq_moveAt hb hf, State.moveAt, h.seq_eq, hp, hv]
    rfl
  obtain ⟨ag, rfl⟩ := h.eq_withAgenda
  have hmore : v.morePages = true ↔ s.imageLen i ≠ 0#32 := by
    rw [hv]
    exact s.openImage_morePages i base
  have hop' : v.status.curOp ≠ HostOp.flashRun.code := by rw [hv]; exact hop
  refine ⟨fun hlen => ?_, fun hlen => ?_⟩
  · rw [hstep, State.nextPage_of_last (by simp [hmore, hlen]), State.imageDone_standalone hop']
    rfl
  · rw [State.nextPage_of_more (hmore.mpr hlen)] at hstep
    obtain ⟨hnext, hfault⟩ := State.beginsPage_of_step hstep
    exact ⟨fun ⟨t, ht⟩ => (hnext t ht).trans ht.symm, fun ⟨f, hf⟩ => hfault f hf⟩

/-! ### The seams of FLASH_RUN (R227, R234, R235) -/

section FlashRun

variable {s : State} (hop : s.status.curOp = HostOp.flashRun.code)

include hop

theorem State.connectDone_flashRun :
    s.connectDone = ((s.setConnected true).setStep .settle).setPos .settle := by
  simp [State.connectDone, State.inFlashRun, hop]

theorem State.versionDone_flashRun {v : Byte} (hr : s.rbuf = [v]) :
    s.versionDone = State.beginId (State.emit { s with version := ⟨v, true⟩ } (.version v)) := by
  simp [State.versionDone, State.inFlashRun, hop, hr]

theorem State.idDone_flashRun {hi lo : Byte} (hr : s.rbuf = [idMarker, hi, lo]) :
    s.idDone = State.beginErase (State.emit { s with chipId := ⟨chipIdOf hi lo, true⟩ } (.chipId (chipIdOf hi lo))) := by
  simp [State.idDone, State.inFlashRun, hop, hr]

theorem State.eraseDone_flashRun :
    s.eraseDone = (s.emit .erased).beginImage .bootstub bootstubAddress := by
  simp [State.eraseDone, State.inFlashRun, hop]

theorem State.imageDone_bootstub (hi : s.status.curImg = .bootstub) : s.imageDone = s.beginApplication := by
  simp [State.imageDone, State.inFlashRun, hop, hi]

theorem State.imageDone_application (hi : s.status.curImg = .application) : s.imageDone = s.closeLink := by
  simp [State.imageDone, State.inFlashRun, hop, hi]

end FlashRun

/-- After the bootstub the application's first page begins. -/
theorem State.beginsPage_of_beginApplication {s z : State} (h : step s = .next z.beginApplication)
    (hlen : z.len1 ≠ 0#32) : s.beginsPage (z.openImage .application appAddress) := by
  apply State.beginsPage_of_step
  rw [h, State.beginApplication, if_pos ((z.openImage_morePages .application appAddress).mpr hlen)]

/-- After the bootstub an empty application is passed over. -/
theorem State.closesLink_of_beginApplication {s z : State} (h : step s = .next z.beginApplication)
    (hlen : z.len1 = 0#32) : s.closesLink (z.openImage .application appAddress) := by
  have hlast : ¬ (z.openImage .application appAddress).morePages = true := by
    rw [State.openImage_morePages]
    exact not_not.mpr hlen
  rw [State.beginApplication, if_neg hlast] at h
  exact h

/-- Settles O51: each operation's return in FLASH_RUN is the start of the next one. -/
theorem flashRunOrder : Obligations.FlashRunOrder := by
  intro s u v r x h ha hop hv
  obtain ⟨ag, rfl⟩ := h.eq_withAgenda
  subst hv
  refine ⟨fun hp => ?_, fun b hp hc hr => ?_, fun hi lo hp hc hr => ?_, fun w0 w1 hp hc hbl hw0 hw1 => ?_,
    fun p w1 hp hc hbl hlast hpg hw1 => ?_⟩
  · rw [h.step_of_connected ha hp, State.connectDone_flashRun (by exact hop)]
    rfl
  · rw [h.step_of_version ha hp hc, State.versionDone_flashRun (by exact hop) (by exact hr)]
    rfl
  · rw [h.step_of_id ha hp hc, State.idDone_flashRun (by exact hop) (by exact hr)]
    rfl
  · have hstep : step s = .next w0.nextPage := by
      rw [h.step_of_erased ha hp hc hbl, State.eraseDone_flashRun (by exact hop), hw0]
      rfl
    have hmore : w0.morePages = true ↔ s.len0 ≠ 0#32 := by
      rw [hw0]
      exact State.openImage_morePages s .bootstub bootstubAddress
    have happ (hlen : s.len0 = 0#32) : step s = .next w0.beginApplication := by
      rw [hstep, State.nextPage_of_last (by simp [hmore, hlen]),
        State.imageDone_bootstub (by rw [hw0]; exact hop) (by rw [hw0])]
    subst hw0 hw1
    exact ⟨fun hlen => State.beginsPage_of_step (by rw [hstep, State.nextPage_of_more (hmore.mpr hlen)]),
      fun hlen hlen1 => State.beginsPage_of_beginApplication (happ hlen) hlen1,
      fun hlen hlen1 => State.closesLink_of_beginApplication (happ hlen) hlen1⟩
  · have hdone : step s = .next p.imageDone := by
      have hle : ¬ p.morePages = true := by
        rw [State.morePages_iff, hpg]
        exact Nat.not_lt.mpr hlast
      rw [← State.nextPage_of_last hle, h.step_of_pageSent ha hp hc hbl, hpg]
      rfl
    have happ (hi : s.status.curImg = .bootstub) : step s = .next p.beginApplication := by
      rw [hdone, State.imageDone_bootstub (by rw [hpg]; exact hop) (by rw [hpg]; exact hi)]
    subst hpg hw1
    refine ⟨fun hi hlen1 => State.beginsPage_of_beginApplication (happ hi) hlen1,
      fun hi hlen1 => State.closesLink_of_beginApplication (happ hi) hlen1, fun hi => ?_⟩
    rw [State.imageDone_application (by exact hop) (by exact hi)] at hdone
    exact hdone

end Sys2Proof.Machine
end

section
/-! PROOFS. O53: a whole run of GLOBAL_ERASE. A command with one payload block and no response is its frame, the Write of the
block, and the ack wait that returns it. -/

namespace Sys2Proof.Machine

/-- An op whose body is one client operation comes to its first transfer in two steps: its acceptance, and the engine's
move to the operation. -/
theorem run_hostOp_call {s t : State} {op : HostOp} {c : ClientCall} {ign : BitVec 28} {more : List Turn} (h : s.accepts)
    (hf : s.inFlight = none) (hargs : op.checkArgs s = true) (hbody : op.body s = .call c)
    (hag : s.agenda = .regWrite 0x0#4 (ctrlWord op.code ign) :: .engine :: more)
    (hexec : exec c.instr ((s.accepted op more).beforeCall c) = .next t) (k : Nat) :
    core.run (k + 2) s = core.run k t := by
  have hengine : (s.accepted op (.engine :: more)).engineNext (s.accepted op more) := .inl ⟨more, rfl, rfl⟩
  rw [run_of_step (step_hostOp h hargs hag), run_of_step ((hengine.step_of_call rfl hf hbody).trans hexec)]

/-- The state in which the ack wait of the only payload block of a command returns: after the frame, the block `sent` was
answered with `xs`, and `y` answered the last echo. -/
def State.blockAcked (s : State) (x0 x1 x2 x3 x4 : Byte) (sent xs : List Byte) (y : Byte) (more : List Turn) : State :=
  { s with
    status := { s.status with hs := .acked, phase := .block0 }
    ackres := some .ack
    pcnt := 1
    lastRx := ⟨ackByte, true⟩
    seq := { s.seq with pos := .echo .block0, blocks := [] }
    trace := (s.frameAcked x0 x1 x2 x3 x4 more).trace ++ callEntries sent xs
      ++ singleEntries s.params.dummyTx [ackByte] ++ singleEntries ackByte [y]
    agenda := more }

/-- A command with one payload block and no response, from its SYNC to its return (R171 to R175). -/
theorem run_block {s : State} {x0 x1 x2 x3 x4 b y : Byte} {bs xs : List Byte} {more : List Turn}
    (hb : s.status.state = .busy) (hf : s.inFlight = none) (hp : s.seq.pos = .write .sync syncByte [])
    (hc : s.status.cancelPend = false) (hbl : s.seq.blocks = [b :: bs]) (hn : s.seq.cmd.responseLength = 0)
    (hlen : xs.length = bs.length + 1)
    (hag : s.agenda = transfersTurns ([x0, ackByte, x1, x2, x3, ackByte, x4] ++ (xs ++ [ackByte, y])) ++ more) (k : Nat) :
    core.run (k + (2 * xs.length + 4) + 14) s
      = core.run k (s.blockAcked x0 x1 x2 x3 x4 (b :: bs) xs y more).commandDone := by
  rw [transfersTurns_append, List.append_assoc] at hag
  have hframe := run_frame hb hf hp hc hag (k + (2 * xs.length + 4))
  have hblock := run_write_acked (e := .block0) (xs := xs) (y := y) (more := more)
    (s := (s.frameAcked x0 x1 x2 x3 x4 (transfersTurns (xs ++ [ackByte, y]) ++ more)).afterBlock .block0)
    (b := b) (rest := bs)
  rw [State.afterBlock_cons (by exact hbl)] at hframe hblock
  have hreturn := hblock hb hf rfl hc hlen rfl k
  rw [State.ackTrue_block0, State.afterBlock_return (by rfl) (by exact hn)] at hreturn
  exact hframe.trans hreturn

theorem commandBytes_globalErase : commandBytes WireCmd.globalErase.opcode = [0x44#8, 0xBB#8] := by decide

/-- Settles O53: the acceptance, the SYNC, the frame, the erase block, and the return that completes the op. -/
theorem globalEraseRun : Obligations.GlobalEraseRun := by
  intro s ign x0 x1 x2 x3 x4 x5 x6 x7 x8 more h hf hag
  have hbegin := run_hostOp_call (op := .globalErase) h hf rfl rfl hag rfl 24
  have hcommand := run_block (x0 := x0) (x1 := x1) (x2 := x2) (x3 := x3) (x4 := x4) (b := 0xFF#8)
    (bs := [0xFF#8, 0x00#8]) (xs := [x5, x6, x7]) (y := x8) (more := more) (s := (s.accepted .globalErase
      (transfersTurns [x0, ackByte, x1, x2, x3, ackByte, x4, x5, x6, x7, ackByte, x8] ++ more)).beginErase)
    rfl hf rfl rfl (by rw [State.beginErase_eq]) rfl rfl rfl 0
  have hop : HostOp.globalErase.code ≠ HostOp.flashRun.code := by decide
  rw [State.commandDone_globalErase (by rfl), State.eraseDone_standalone (by exact hop)] at hcommand
  rw [State.beginErase_eq] at hbegin hcommand
  refine ⟨_, hbegin.trans hcommand, rfl, hf, ?_, rfl, rfl, rfl, rfl, rfl, rfl, rfl⟩
  rw [← commandBytes_globalErase]
  rfl

end Sys2Proof.Machine
end

section
/-! PROOFS. O17 and O21 to O26: what a CTRL write does in each state. Every CTRL word runs `State.ctrlWrite`, which ignores
the write with OVR while BUSY, ignores it in ERROR, and else accepts it: an op whose arguments pass begins its body, any
other raises BAD_REQUEST. -/

namespace Sys2Proof.Machine

/-! ### The argument check written out (R221) -/

/-- The last page of an image that fits ends at or below 0xFFFFFFFF. -/
theorem fits_iff {maxLen len base : Nat} : fits maxLen len base = true ↔
    len = 0 ∨ (len ≤ maxLen ∧ base + 256 * ((len + 255) / 256) ≤ 0x100000000) := by
  unfold fits
  split
  case isTrue hlen => simp [hlen]
  case isFalse hlen =>
    rw [Bool.and_eq_true, decide_eq_true_eq, decide_eq_true_eq, pageSize, npages]
    omega

theorem HostOp.checkArgs_programImage_iff {s : State} : HostOp.programImage.checkArgs s = true ↔
    (s.imageLen s.imgsel).toNat = 0
      ∨ ((s.imageLen s.imgsel).toNat ≤ s.params.imgMaxLen
        ∧ s.base.toNat + 256 * (((s.imageLen s.imgsel).toNat + 255) / 256) ≤ 0x100000000) :=
  fits_iff

theorem HostOp.checkArgs_flashRun_iff {s : State} : HostOp.flashRun.checkArgs s = true ↔
    (s.len0.toNat = 0 ∨ (s.len0.toNat ≤ s.params.imgMaxLen
        ∧ 0x08000000 + 256 * ((s.len0.toNat + 255) / 256) ≤ 0x100000000))
      ∧ (s.len1.toNat = 0 ∨ (s.len1.toNat ≤ s.params.imgMaxLen
        ∧ 0x08020000 + 256 * ((s.len1.toNat + 255) / 256) ≤ 0x100000000)) :=
  State.flashFits_iff.trans (and_congr fits_iff fits_iff)

/-! ### A CTRL write in BUSY and in ERROR (R220, R229, R260) -/

theorem State.ctrlWrite_of_busy {s : State} (h : s.status.state = .busy) (code : BitVec 4) (run : State → State) :
    s.ctrlWrite code run = s.setOvr := by
  rw [State.ctrlWrite, h]

theorem State.ctrlWrite_of_error {s : State} (h : s.status.state = .error) (code : BitVec 4) (run : State → State) :
    s.ctrlWrite code run = s := by
  rw [State.ctrlWrite, h]

/-- A host op with any code, reserved or not, is a CTRL write: the codes differ only in what an acceptance runs. -/
theorem exec_ctrlInstr (code : BitVec 4) (ign : BitVec 28) (s : State) :
    ∃ run, exec (ctrlInstr code ign) s = .next (s.ctrlWrite code run) := by
  unfold ctrlInstr
  split_ifs
  case neg => exact ⟨_, rfl⟩
  all_goals subst code; exact ⟨_, rfl⟩

/-- The step of a host write to CTRL, whatever the word. -/
theorem State.turnNext.step_ctrl {s u : State} {v : Word} (h : s.turnNext u (.regWrite 0x0#4 v)) :
    ∃ code run, step s = .next (u.ctrlWrite code run) := by
  obtain ⟨run, hrun⟩ := exec_ctrlInstr (v.extractLsb' 0 4) (v.extractLsb' 4 28) u
  exact ⟨_, run, h.step_eq.trans hrun⟩

/-- Settles O17: the CTRL write is not accepted, and the other four writes and every load are guarded. -/
theorem busyIgnoresHostWrites : Obligations.BusyIgnoresHostWrites := by
  intro s u hb
  constructor
  · intro n v hn h
    have hu : u.status.state = .busy := by rwa [h.status_eq]
    rcases eq_or_ne n 0x0#4 with rfl | hctrl
    · obtain ⟨code, run, hstep⟩ := h.step_ctrl
      rw [hstep, State.ctrlWrite_of_busy hu, State.setOvr]
    · rw [h.step_regWrite hctrl]
      simp only [List.mem_cons, List.not_mem_nil, or_false, hctrl, false_or] at hn
      -- BASE, IMGSEL, LEN0 and LEN1
      rcases hn with rfl | rfl | rfl | rfl
      all_goals exact congrArg _ (State.unlessBusy_of_busy hu _)
  · intro i k b h
    have hu : u.status.state = .busy := by rwa [h.status_eq]
    exact h.step_eq.trans (congrArg _ (State.unlessBusy_of_busy hu _))

/-- Settles O26: a CTRL write in ERROR leaves the state as it is, whatever its word. -/
theorem opsIgnoredInError : Obligations.OpsIgnoredInError := by
  intro s u v h he
  obtain ⟨code, run, hstep⟩ := h.step_ctrl
  have hu : u.status.state = .error := by rwa [h.status_eq]
  rw [hstep, State.ctrlWrite_of_error hu]

/-! ### An op rejected at its acceptance (R220, R228, R257) -/

theorem State.startOp_of_not_checkArgs {s : State} {op : HostOp} (h : ¬ op.checkArgs s = true) :
    s.startOp op = s.raise .badRequest none := if_neg h

/-- The state in which a request with the given code was rejected (R258). -/
def State.rejected (s : State) (code : BitVec 4) : State :=
  { s with
    status := {
      s.status with
      state := .error, err := .badRequest, curOp := code, step := .none, phase := .none, cancelPend := false }
    errInfo := ⟨0#8, false, .none, .none, s.status.curImg⟩
    errPage := s.page
    seq := { s.seq with pos := .error } }

theorem State.acceptFields_raise_badRequest (s : State) (code : BitVec 4) :
    (s.acceptFields code).raise .badRequest none = s.rejected code := rfl

/-- The check reads none of the fields that an acceptance sets. -/
theorem HostOp.checkArgs_acceptFields (op : HostOp) (s : State) (code : BitVec 4) :
    op.checkArgs (s.acceptFields code) = op.checkArgs s := by
  cases op <;> rfl

theorem exec_hostOp_of_rejects {s : State} {op : HostOp} (h : s.accepts) (hargs : ¬ op.checkArgs s = true)
    (ign : BitVec 28) : exec (ctrlInstr op.code ign) s = .next (s.rejected op.code) := by
  rw [← op.checkArgs_acceptFields s op.code] at hargs
  rw [exec_hostOp, State.ctrlWrite_of_accepts h, State.startOp_of_not_checkArgs hargs,
    State.acceptFields_raise_badRequest]

/-- Settles O24: each condition is the negation of the check written out. -/
theorem badArgumentsRejected : Obligations.BadArgumentsRejected := by
  intro s ign h
  constructor
  · intro hlen hbad
    have hargs : ¬ HostOp.programImage.checkArgs s = true := by
      rw [HostOp.checkArgs_programImage_iff]
      omega
    exact exec_hostOp_of_rejects h hargs ign
  · intro hbad
    have hargs : ¬ HostOp.flashRun.checkArgs s = true := by
      rw [HostOp.checkArgs_flashRun_iff]
      omega
    exact exec_hostOp_of_rejects h hargs ign

/-- Settles O25: a reserved op runs no check, and its acceptance is the error entry. -/
theorem reservedOpRejected : Obligations.ReservedOpRejected := fun s op _ h _ =>
  congrArg _ (s.ctrlWrite_of_accepts h op _)

/-! ### An op accepted (R220, R222 to R227) -/

/-- Settles O21: the four ops have no arguments to check. -/
theorem simpleOpsAccepted : Obligations.SimpleOpsAccepted := fun _ ign h =>
  ⟨exec_hostOp_of_accepts (op := .connect) h rfl ign, exec_hostOp_of_accepts (op := .getVersion) h rfl ign,
    exec_hostOp_of_accepts (op := .getId) h rfl ign, exec_hostOp_of_accepts (op := .globalErase) h rfl ign⟩

/-- Settles O22: the condition is the check written out. -/
theorem programImageAccepted : Obligations.ProgramImageAccepted := fun _ ign h hargs =>
  exec_hostOp_of_accepts (op := .programImage) h (HostOp.checkArgs_programImage_iff.mpr hargs) ign

/-- Settles O23: the two conditions are the check written out. -/
theorem flashRunAccepted : Obligations.FlashRunAccepted := fun _ ign h hboot happ =>
  exec_hostOp_of_accepts (op := .flashRun) h (HostOp.checkArgs_flashRun_iff.mpr ⟨hboot, happ⟩) ign

end Sys2Proof.Machine
end

section
/-! PROOFS. O40 and O57: how ERROR is entered by a transport error, and that it is left only by reset. -/

namespace Sys2Proof.Machine

/-! ### The transport error (R255) -/

/-- Settles O40: the answer `xerr` closes the outstanding transfer and raises, at whatever position the engine is. -/
theorem transportErrorRaised : Obligations.TransportErrorRaised := by
  intro s u r h
  rw [h.step_eq, State.receive_xerr u r h.inFlight_eq, State.settleTransfer, State.raise]
  rfl

/-! ### What a step in ERROR leaves alone (R260, R261, R270) -/

/-- From `s` to `t` STATUS, the error record, the port and what was observed of the engine are unchanged. The agenda, the
arguments, the images and the log of host reads are no part of it. -/
structure ErrorKept (s t : State) : Prop where
  status : t.status = s.status
  errInfo : t.errInfo = s.errInfo
  errPage : t.errPage = s.errPage
  inFlight : t.inFlight = s.inFlight
  trace : t.trace = s.trace
  events : t.events = s.events
  closes : t.closes = s.closes

theorem ErrorKept.same (s : State) : ErrorKept s s := ⟨rfl, rfl, rfl, rfl, rfl, rfl, rfl⟩

/-- The wire trace is made of the finished trace and the port. -/
theorem ErrorKept.wireTrace {s t : State} (h : ErrorKept s t) : t.wireTrace = s.wireTrace := by
  rw [State.wireTrace, State.wireTrace, h.inFlight, h.trace]

theorem State.loadByte_errorKept (s : State) (i : ImageSel) (k : Nat) (b : Byte) : ErrorKept s (s.loadByte i k b) := by
  rw [State.loadByte_frame]
  exact ⟨rfl, rfl, rfl, rfl, rfl, rfl, rfl⟩

/-- Outside BUSY a host write of a register other than CTRL stores an argument or does nothing. -/
theorem State.regWrite_errorKept {s : State} (n : BitVec 4) (v : Word) (hb : s.status.state ≠ .busy) :
    ErrorKept s (s.regWrite n v) := by
  simp only [State.regWrite, State.unlessBusy_of_ne hb]
  split_ifs
  · rw [State.writeCancel, if_neg (by simp [State.isBusy, hb])]
    exact .same s
  -- BASE, IMGSEL, LEN0 and LEN1
  iterate 4 · exact ⟨rfl, rfl, rfl, rfl, rfl, rfl, rfl⟩
  · exact .same s

theorem State.imgLoad_errorKept {s : State} (i : ImageSel) (k : Nat) (b : Byte) (hb : s.status.state ≠ .busy) :
    ErrorKept s (s.imgLoad i k b) := by
  rw [State.imgLoad_of_ne hb]
  split_ifs
  · exact s.loadByte_errorKept i k b
  · exact .same s

/-- With no transfer outstanding an answer reaches nothing (R116, R281). -/
theorem State.receive_errorKept {s : State} (a : LinkAnswer) (hf : s.inFlight = none) : ErrorKept s (s.receive a) := by
  rw [State.receive_idle s a hf]
  exact .same s

/-- No host op is accepted in ERROR (R260). -/
theorem decodeCtrl_errorKept {v : Word} {s t : State} (he : s.status.state = .error)
    (h : exec (decodeCtrl v) s = .next t) : ErrorKept s t := by
  rcases decodeCtrl_exec v s t h with ⟨hs, -⟩ | ⟨-, rfl⟩ | ⟨hs | hs, -⟩
  · exact absurd (he.symm.trans hs) (by decide)
  · exact .same _
  all_goals exact absurd (he.symm.trans hs) (by decide)

/-- In ERROR with a free port every move but a reset keeps the error. -/
theorem step_errorKept {s t : State} (he : s.status.state = .error) (hf : s.inFlight = none)
    (hr : ∀ rest, s.agenda ≠ .reset :: rest) (h : step s = .next t) : ErrorKept s t := by
  have hb : s.status.state ≠ .busy := by rw [he]; decide
  obtain ⟨a, u, rfl, hu⟩ := step_cases s t h
  suffices hk : ErrorKept { s with agenda := a } t from { hk with }
  rcases hu with ⟨hag, -⟩ | ⟨n, v, -, -, rfl⟩ | ⟨v, -, hv⟩ | ⟨n, -, rfl⟩ | ⟨i, k, b, -, rfl⟩ | ⟨x, rfl⟩ | ⟨-, rfl⟩
    | ⟨hbusy, -, -⟩
  · exact absurd hag (hr a)
  · exact State.regWrite_errorKept n v hb
  · exact decodeCtrl_errorKept he hv
  · exact ⟨rfl, rfl, rfl, rfl, rfl, rfl, rfl⟩
  · exact State.imgLoad_errorKept i k b hb
  · exact State.receive_errorKept x hf
  · exact .same _
  · exact absurd hbusy hb

/-- Settles O57: by the invariant the port is free in ERROR, so the link has nothing to answer and the engine does not move. -/
theorem errorIsSticky : Obligations.ErrorIsSticky := by
  intro s t hi he hr h
  have hf : s.inFlight = none := hi.portFree (by rw [he]; decide)
  have hk : ErrorKept s t := step_errorKept he hf hr h
  exact ⟨hk.status, hk.errInfo, hk.errPage, hk.inFlight.trans hf, hk.wireTrace, hk.events, hk.closes⟩

end Sys2Proof.Machine
end
